-- ==== Sys2Proof/Word.lean ====
section
/-! DEFINITION. The widths of the machine's values (00_scope.md section 5, R2). Every value is an unsigned bit vector;
core `BitVec` supplies selection, concatenation (R3) and XOR (R10), and there is no other arithmetic. -/

namespace Sys2Proof

/-- A half-block, a round output, a substitution output, a register of the window: 32 bits (HALF_WIDTH, REG_WIDTH). -/
abbrev Word := BitVec 32

/-- An expanded block or a subkey: 48 bits (EXP_WIDTH). -/
abbrev Wide := BitVec 48

/-- One of the eight groups of a 48-bit value: 6 bits (GROUP_WIDTH). -/
abbrev Group := BitVec 6

/-- One of the eight nibbles of a 32-bit value: 4 bits (NIBBLE_WIDTH). -/
abbrev Nibble := BitVec 4

end Sys2Proof
end

