-- ==== Sys2Proof/Config.lean ====
section
/-! DEFINITION. What the spec leaves to an implementation: the unspecified values (R105, U1). The other two open points are
plain data of State, so that a claim about every state covers them: BASE_ADDR (R29) is its field `page`, and LATENCY (R108)
is where a completion stands in its field `agenda`. -/

namespace Sys2Proof

/-- The unspecified 32-bit value of the n-th read of a result register while BUSY = 1 (R105: "A model draws a fresh value on
each such read"). It has no body, so no proof sees a value of it. Log 3. -/
opaque Config.freeWord : Nat → Word

end Sys2Proof
end

