-- ==== Sys2Proof/Syntax.lean ====
section
/-! DEFINITION. The command set, edition 1: one constructor per row of spec/opcode_table.json (R47). -/

namespace Sys2Proof

/-- A command. Only SBOX, SBOXINV and TBLRD use the selector field SEL (R46, R48); every other command has SEL = 0, so its
constructor carries nothing. The operands are registers (R50), not fields of the command word. -/
inductive Instr where
  /-- NOP (R85) -/
  | nop
  /-- EXPAND (R59) -/
  | expand
  /-- UNEXPAND (R60) -/
  | unexpand
  /-- SUBST (R65) -/
  | subst
  /-- PERM (R61) -/
  | perm
  /-- UNPERM (R62) -/
  | unperm
  /-- ROUND (R69) -/
  | round
  /-- INVERT (R84) -/
  | invert
  /-- VERIFY (R70) -/
  | verify
  /-- SBOX i (R66) -/
  | sbox (i : BitVec 3)
  /-- SBOXINV i (R67) -/
  | sboxinv (i : BitVec 3)
  /-- TBLRD t (R63): t = 0 is E, 1 is E⁻¹, 2 is P, 3 is P⁻¹ -/
  | tblrd (t : BitVec 3)
  /-- SELFTEST (R87) -/
  | selftest
  /-- ADJCHK (R83) -/
  | adjchk
  deriving DecidableEq, Repr

end Sys2Proof
end

