-- ==== Sys2Proof/WellFormed.lean ====
section
/-! DEFINITION. Which commands a legal word can stand for (R48). -/

namespace Sys2Proof

/-- R48: every selector is legal for SBOX and SBOXINV, and TBLRD has the four tables SEL = 0..3. The other commands carry no
selector, so there is nothing to check. -/
def Instr.wellFormed : Instr → Bool
  | .nop => true
  | .expand => true
  | .unexpand => true
  | .subst => true
  | .perm => true
  | .unperm => true
  | .round => true
  | .invert => true
  | .verify => true
  | .sbox _ => true
  | .sboxinv _ => true
  | .tblrd t => decide (t.toNat ≤ 3)
  | .selftest => true
  | .adjchk => true

end Sys2Proof
end

