-- ==== Sys2Proof/Decode.lean ====
section
/-! DEFINITION. Decoding and encoding a command word (30_encoding.md R46 to R49, R56). -/

namespace Sys2Proof

/-- Why a word is no command. The machine answers ILLEGAL_CMD to each (R49, R56). -/
inductive Reject where
  /-- RSVD ≠ 0 -/
  | reservedBits
  /-- OP = 0x0E..0xFF -/
  | unassignedOp
  /-- SEL is not legal for OP -/
  | illegalSel
  /-- not four bytes: a command is always exactly one 32-bit word (R46) -/
  | notOneWord
  deriving DecidableEq, Repr

/-- OP = c[7:0] (R46). -/
def opOf (c : Word) : BitVec 8 := c.extractLsb' 0 8

/-- SEL = c[10:8] (R46). -/
def selOf (c : Word) : BitVec 3 := c.extractLsb' 8 3

/-- RSVD = c[31:11] (R46). -/
def rsvdOf (c : Word) : BitVec 21 := c.extractLsb' 11 21

/-- A command that has no selector is legal with SEL = 0 only (R48). -/
def plain (sel : BitVec 3) (i : Instr) : Except Reject Instr :=
  if sel = 0 then .ok i else .error .illegalSel

/-- The command with opcode `op` and selector `sel`, by the table of R47 and the selector rule R48. -/
def decodeOp (op : BitVec 8) (sel : BitVec 3) : Except Reject Instr :=
  match op.toNat with
  | 0x00 => plain sel .nop
  | 0x01 => plain sel .expand
  | 0x02 => plain sel .unexpand
  | 0x03 => plain sel .subst
  | 0x04 => plain sel .perm
  | 0x05 => plain sel .unperm
  | 0x06 => plain sel .round
  | 0x07 => plain sel .invert
  | 0x08 => plain sel .verify
  | 0x09 => .ok (.sbox sel)
  | 0x0A => .ok (.sboxinv sel)
  | 0x0B => if sel.toNat ≤ 3 then .ok (.tblrd sel) else .error .illegalSel
  | 0x0C => plain sel .selftest
  | 0x0D => plain sel .adjchk
  | _ => .error .unassignedOp

/-- The command a word written to CMD stands for: total, each word one command or a rejection (R49, R56). -/
def decode (c : Word) : Except Reject Instr :=
  if rsvdOf c = 0 then decodeOp (opOf c) (selOf c) else .error .reservedBits

/-- The word on four little-endian byte lanes: byte k is bits 8k+7..8k (R31). -/
def wordOfBytes (b0 b1 b2 b3 : BitVec 8) : Word := b3 ++ b2 ++ b1 ++ b0

/-- Decoding from bytes, lowest address first: exactly one word of four bytes (R31, R46). -/
def decodeBytes : List (BitVec 8) → Except Reject Instr
  | [b0, b1, b2, b3] => decode (wordOfBytes b0 b1 b2 b3)
  | _ => .error .notOneWord

/-- The low 32 bits of `w` as the hardware carries them: four bytes, the least significant first (R31). -/
def bytesOfNat (w : Nat) : List (BitVec 8) :=
  [BitVec.ofNat 8 w, BitVec.ofNat 8 (w / 0x100), BitVec.ofNat 8 (w / 0x10000), BitVec.ofNat 8 (w / 0x1000000)]

/-- What the decoder reads from the instruction whose bits, numbered as spec/opcode_table.json numbers them, are the low
`nbits` bits of `w`; the bits above are 0. -/
def decodeTableWord (nbits w : Nat) : Option Instr :=
  match decodeBytes (bytesOfNat (w % 2 ^ nbits)) with
  | .ok i => some i
  | .error _ => none

/-! ## The encoder, from the same table -/

/-- OP of a command (R47). -/
def Instr.op : Instr → BitVec 8
  | .nop => 0x00
  | .expand => 0x01
  | .unexpand => 0x02
  | .subst => 0x03
  | .perm => 0x04
  | .unperm => 0x05
  | .round => 0x06
  | .invert => 0x07
  | .verify => 0x08
  | .sbox _ => 0x09
  | .sboxinv _ => 0x0A
  | .tblrd _ => 0x0B
  | .selftest => 0x0C
  | .adjchk => 0x0D

/-- SEL of a command (R48). -/
def Instr.sel : Instr → BitVec 3
  | .nop => 0
  | .expand => 0
  | .unexpand => 0
  | .subst => 0
  | .perm => 0
  | .unperm => 0
  | .round => 0
  | .invert => 0
  | .verify => 0
  | .sbox i => i
  | .sboxinv i => i
  | .tblrd t => t
  | .selftest => 0
  | .adjchk => 0

/-- The command word: RSVD = 0, then SEL, then OP (R46, R57). -/
def encode (i : Instr) : Word := (0 : BitVec 21) ++ i.sel ++ i.op

/-! ## Legality as the spec writes it, and the opcode table -/

/-- `legal(c)` of R49, line for line. It does not use the decoder. -/
def legal (c : Word) : Bool :=
  rsvdOf c == 0 &&
    (((decide ((opOf c).toNat ≤ 0x08) || opOf c == 0x0C || opOf c == 0x0D) && selOf c == 0)
      || (opOf c == 0x09 || opOf c == 0x0A)
      || (opOf c == 0x0B && decide ((selOf c).toNat ≤ 3)))

/-- One row of spec/opcode_table.json. -/
structure OpcodeRow where
  mnemonic : String
  pattern : Word
  mask : Word
  deriving DecidableEq, Repr

/-- A word matches a row under the row's mask (R49). -/
def OpcodeRow.fits (r : OpcodeRow) (c : Word) : Bool := c &&& r.mask == r.pattern

/-- spec/opcode_table.json: the mnemonic, match and mask of its fourteen rows, in its order. -/
def opcodeTable : List OpcodeRow :=
  [⟨"NOP", 0x00000000, 0xFFFFFFFF⟩, ⟨"EXPAND", 0x00000001, 0xFFFFFFFF⟩, ⟨"UNEXPAND", 0x00000002, 0xFFFFFFFF⟩,
   ⟨"SUBST", 0x00000003, 0xFFFFFFFF⟩, ⟨"PERM", 0x00000004, 0xFFFFFFFF⟩, ⟨"UNPERM", 0x00000005, 0xFFFFFFFF⟩,
   ⟨"ROUND", 0x00000006, 0xFFFFFFFF⟩, ⟨"INVERT", 0x00000007, 0xFFFFFFFF⟩, ⟨"VERIFY", 0x00000008, 0xFFFFFFFF⟩] ++
  [⟨"SBOX", 0x00000009, 0xFFFFF8FF⟩, ⟨"SBOXINV", 0x0000000A, 0xFFFFF8FF⟩, ⟨"TBLRD", 0x0000000B, 0xFFFFFCFF⟩,
   ⟨"SELFTEST", 0x0000000C, 0xFFFFFFFF⟩, ⟨"ADJCHK", 0x0000000D, 0xFFFFFFFF⟩]

/-- The row of a command. -/
def Instr.mnemonic : Instr → String
  | .nop => "NOP"
  | .expand => "EXPAND"
  | .unexpand => "UNEXPAND"
  | .subst => "SUBST"
  | .perm => "PERM"
  | .unperm => "UNPERM"
  | .round => "ROUND"
  | .invert => "INVERT"
  | .verify => "VERIFY"
  | .sbox _ => "SBOX"
  | .sboxinv _ => "SBOXINV"
  | .tblrd _ => "TBLRD"
  | .selftest => "SELFTEST"
  | .adjchk => "ADJCHK"

end Sys2Proof
end

