-- ==== Sys2Proof/Machine/State.lean ====
section
/-! DEFINITION. The machine's state as plain data (10_state.md), the events that reach it, the reasons it can stop, and
its state right after reset (R100). -/

namespace Sys2Proof.Machine

/-- The values of STATUS.ERRCODE: "No other value is ever written" (R89). -/
inductive ErrCode where
  /-- 0x00: no error recorded since ERR was last cleared, or since reset -/
  | none
  /-- 0x01: the word written to CMD is not legal (R49) -/
  | illegalCmd
  /-- 0x02: CMD was written while BUSY = 1 (R104) -/
  | busyReject
  /-- 0x03: SBOX, SBOXINV or TBLRD with ARG0 out of range (R51) -/
  | badOperand
  /-- 0x04: CFG_FAULT = 1 and the command is neither NOP nor SELFTEST (R88) -/
  | cfgReject
  /-- 0x05: a candidate reached verification and failed it (R78) -/
  | soundness
  /-- 0x06: more than 16 distinct verified candidates (R79) -/
  | overflow
  /-- 0x07: a self-test failed (R87, R101) -/
  | configDefect
  deriving DecidableEq, Repr

/-- STATUS (R13). Its reserved bits read 0 and ignore writes (R21), so they have no storage. -/
structure Status where
  busy : Bool
  cfgOk : Bool
  cfgFault : Bool
  err : Bool
  sound : Bool
  ovf : Bool
  errCode : ErrCode
  deriving DecidableEq, Repr

/-- The operands latched at issue (R26). -/
structure Latched where
  op : BitVec 8
  sel : BitVec 3
  arg0 : Word
  arg1 : Word
  key : Wide
  deriving DecidableEq, Repr

/-- The engine's phase (R25). RUN(op, sel) carries the accepted command (log 5). -/
inductive Phase where
  | idle
  | run (i : Instr)
  | selftestReset
  deriving DecidableEq, Repr

/-- The search unit's working state (R27). A partial assignment (g_0, …, g_{i−1}) is held newest group first. -/
structure Search where
  /-- the eight candidate sets C_0, …, C_7 (R74), each in the order of its slots -/
  cands : List (List Group)
  /-- the depth-first stack of partial assignments still to be extended, the next one first (R75) -/
  stack : List (List Group)
  /-- the set R of verified candidates being built (R77), ascending -/
  found : List Word
  /-- the soundness indication (R77, R78) -/
  violated : Bool
  deriving DecidableEq, Repr

/-- One event (R35: accesses and engine steps take effect one at a time). `addr` is a byte address of the host's address
space and `nbytes` the width of the access. -/
inductive Event where
  /-- the host writes `v` (R33) -/
  | write (addr nbytes : Nat) (v : Word)
  /-- the host reads (R32) -/
  | read (addr nbytes : Nat)
  /-- the engine's completion step (R55, R101) -/
  | complete
  /-- a host write of `v` to STATUS and the engine's completion step in the same event (R14, R90; log 10) -/
  | clearAtCompletion (v : Word)
  /-- one internal step of the search unit (R27, R75), which no register shows -/
  | searchStep
  /-- reset is asserted (R100, R102) -/
  | reset
  deriving DecidableEq, Repr

/-- CORE's state, and the model's own four fields. -/
structure State where
  /-- STATUS (R13) -/
  status : Status
  /-- ARG0 (R15) -/
  arg0 : Word
  /-- ARG1 (R15) -/
  arg1 : Word
  /-- KEY0 (R16) -/
  key0 : Word
  /-- KEY1, whose bits 31..16 read 0 and ignore writes (R16) -/
  key1 : BitVec 16
  /-- RES0 (R17) -/
  res0 : Word
  /-- RES1, whose bits 31..16 always read 0 (R18) -/
  res1 : BitVec 16
  /-- CNT, whose bits 31..5 always read 0 (R19) -/
  cnt : BitVec 5
  /-- CAND[0..15] (R20) -/
  cand : Vector Word 16
  /-- the engine's phase (R25) -/
  phase : Phase
  /-- the operands latched at issue (R26) -/
  lat : Latched
  /-- the search unit's working state (R27) -/
  search : Search
  /-- MODEL'S OWN: the events still to come, the next one first (log 1) -/
  agenda : List Event
  /-- MODEL'S OWN: the value the host's last read returned (log 4) -/
  rdata : Word
  /-- MODEL'S OWN: how many unspecified values have been drawn (log 3) -/
  draws : Nat
  /-- MODEL'S OWN: BASE_ADDR / 0x100, the open parameter of R29 (log 2) -/
  page : Nat
  deriving DecidableEq, Repr

/-- Why the machine stops. -/
inductive Fault where
  /-- A host access in the window that is not 32 bits wide or not at a multiple of 4 (R30: "a model treats it as the fault
  `BadAccess` (refuse)"). Raised by the host's reads and writes. Safe: nothing is claimed of what follows. -/
  | badAccess
  /-- A host access outside the window, which does not reach CORE (R29). Raised by the host's reads and writes. Safe (log 6). -/
  | outsideWindow
  /-- TBLRD of an entry that no table has. Raised by TBLRD alone, and by no command that was accepted, since the word is
  ILLEGAL_CMD (R49) or the operand BAD_OPERAND (R51) first. Safe (log 7). -/
  | noTableEntry
  deriving DecidableEq, Repr

/-- Why an instruction has no meaning. -/
inductive Refusal where
  /-- The instruction is not modelled. Raised by no arm of `exec`: every command has its meaning. Safe. -/
  | notModelled (mnemonic : String)
  deriving DecidableEq, Repr

/-- The empty search state (R100). -/
def Search.empty : Search := { cands := [], stack := [], found := [], violated := false }

/-- STATUS = 0x00000001 (R100). -/
def Status.reset : Status :=
  { busy := true, cfgOk := false, cfgFault := false, err := false, sound := false, ovf := false, errCode := .none }

/-- The machine right after reset (R100). The model's own fields start empty or at zero (logs 1 to 4). -/
def State.reset : State :=
  { status := .reset, arg0 := 0, arg1 := 0, key0 := 0, key1 := 0, res0 := 0, res1 := 0, cnt := 0,
    cand := Vector.replicate 16 0, phase := .selftestReset,
    lat := { op := 0, sel := 0, arg0 := 0, arg1 := 0, key := 0 }, search := .empty,
    agenda := [], rdata := 0, draws := 0, page := 0 }

end Sys2Proof.Machine
end

