-- ==== Sys2Proof/Machine/Flags.lean ====
section
/-! DEFINITION. STATUS: its word (R13), recording an error (R90), clearing sticky bits (R14), and what completions do to
it (R55, R78, R79, R87, R93). CORE has no condition codes (R23): these bits are all its flags. -/

namespace Sys2Proof.Machine

/-- The code of an error (R89). -/
def ErrCode.byte : ErrCode → BitVec 8
  | .none => 0x00
  | .illegalCmd => 0x01
  | .busyReject => 0x02
  | .badOperand => 0x03
  | .cfgReject => 0x04
  | .soundness => 0x05
  | .overflow => 0x06
  | .configDefect => 0x07

/-- STATUS as a word: ERRCODE in bits 15..8, OVF, SOUND, ERR, CFG_FAULT, CFG_OK and BUSY in bits 5..0, every other bit 0
(R13). -/
def Status.word (t : Status) : Word :=
  (0 : BitVec 16) ++ t.errCode.byte ++ (0 : BitVec 2) ++ BitVec.ofBool t.ovf ++ BitVec.ofBool t.sound ++
    BitVec.ofBool t.err ++ BitVec.ofBool t.cfgFault ++ BitVec.ofBool t.cfgOk ++ BitVec.ofBool t.busy

/-- Recording error code e: ERR <- 1, ERRCODE <- e, an earlier code overwritten (R90). -/
def Status.record (e : ErrCode) (t : Status) : Status := { t with err := true, errCode := e }

/-- A host write of v to STATUS: bits 3, 4 and 5 clear ERR with ERRCODE, SOUND and OVF where they are 1; every other bit of
v is ignored (R14). -/
def Status.clear (v : Word) (t : Status) : Status :=
  { t with
    err := t.err && !v.getLsbD 3
    errCode := if v.getLsbD 3 then .none else t.errCode
    sound := t.sound && !v.getLsbD 4
    ovf := t.ovf && !v.getLsbD 5 }

/-- BUSY <- 0 (R55). -/
def Status.release (t : Status) : Status := { t with busy := false }

/-- BUSY <- 1 (R54). -/
def Status.take (t : Status) : Status := { t with busy := true }

/-- The verdict of a self-test: CFG_OK and CFG_FAULT, and CONFIG_DEFECT recorded on failure (R87, R101). -/
def Status.selfTest (ok : Bool) (t : Status) : Status :=
  let t' : Status := { t with cfgOk := ok, cfgFault := !ok }
  if ok then t' else t'.record .configDefect

/-- INVERT's effect on STATUS: SOUND and OVF are set where a violation or an overflow occurred, and one code is recorded,
OVERFLOW before SOUNDNESS (R78, R79, R93). -/
def Status.searched (violated overflows : Bool) (t : Status) : Status :=
  let t' : Status := { t with sound := t.sound || violated, ovf := t.ovf || overflows }
  if overflows then t'.record .overflow else if violated then t'.record .soundness else t'

end Sys2Proof.Machine
end

