-- ==== Sys2Proof/Machine/Operands.lean ====
section
/-! DEFINITION. The operand forms of the commands (R50), all read from the copies latched at issue (R26), and the operand
ranges checked at issue (R51). -/

namespace Sys2Proof.Machine

/-- K = KEY1[15:0] ++ KEY0 (R16). -/
def State.subkey (s : State) : Wide := s.key1 ++ s.key0

/-- W48 = lat.arg1[15:0] ++ lat.arg0; lat.arg1[31:16] is ignored (R50). -/
def State.w48 (s : State) : Wide := s.lat.arg1.extractLsb' 0 16 ++ s.lat.arg0

/-- The 6-bit S-box input of SBOX: lat.arg0[5:0] (R66). -/
def State.sboxInput (s : State) : Group := s.lat.arg0.extractLsb' 0 6

/-- The 4-bit S-box output of SBOXINV: lat.arg0[3:0] (R67). -/
def State.sboxOutput (s : State) : Nibble := s.lat.arg0.extractLsb' 0 4

/-- The operand in ARG0 is out of range for the command (R51). Only SBOX, SBOXINV and TBLRD check theirs. -/
def operandOutOfRange (i : Instr) (arg0 : Word) : Bool :=
  match i with
  | .nop => false
  | .expand => false
  | .unexpand => false
  | .subst => false
  | .perm => false
  | .unperm => false
  | .round => false
  | .invert => false
  | .verify => false
  | .sbox _ => arg0.extractLsb' 6 26 != 0
  | .sboxinv _ => arg0.extractLsb' 4 28 != 0
  | .tblrd t => if t = 0 then decide (48 ≤ arg0.toNat) else decide (32 ≤ arg0.toNat)
  | .selftest => false
  | .adjchk => false

/-- The command is accepted while CFG_FAULT = 1: NOP and SELFTEST alone (R88). -/
def allowedInFault (i : Instr) : Bool :=
  match i with
  | .nop => true
  | .expand => false
  | .unexpand => false
  | .subst => false
  | .perm => false
  | .unperm => false
  | .round => false
  | .invert => false
  | .verify => false
  | .sbox _ => false
  | .sboxinv _ => false
  | .tblrd _ => false
  | .selftest => true
  | .adjchk => false

end Sys2Proof.Machine
end

