-- ==== Sys2Proof/Machine/Bits.lean ====
section
/-! DEFINITION. Bit fields (00_scope.md R2 to R9): groups, nibbles, S-box rows and columns, adjacency, and selection by a
table. Index i is 0..7, group 0 and nibble 0 the most significant (R5, R6, R7). -/

namespace Sys2Proof.Machine

/-- group(w, i) = w[6·(7−i)+5 : 6·(7−i)] (R5). -/
def group (w : Wide) (i : Nat) : Group := w.extractLsb' (6 * (7 - i)) 6

/-- nib(s, i) = s[4·(7−i)+3 : 4·(7−i)] (R6). -/
def nib (s : Word) (i : Nat) : Nibble := s.extractLsb' (4 * (7 - i)) 4

/-- row(g) = g[5] ++ g[0] (R8). -/
def row (g : Group) : BitVec 2 := g.extractLsb' 5 1 ++ g.extractLsb' 0 1

/-- col(g) = g[4:1] (R8). -/
def col (g : Group) : BitVec 4 := g.extractLsb' 1 4

/-- The input that row r and column c name: r[1] ++ c ++ r[0] (R8). -/
def inputAt (r : BitVec 2) (c : BitVec 4) : Group := r.extractLsb' 1 1 ++ c ++ r.extractLsb' 0 1

/-- g[5:4], the two bits a group shares with the group before it (R9). -/
def hi2 (g : Group) : BitVec 2 := g.extractLsb' 4 2

/-- g[1:0], the two bits a group shares with the next group (R9). -/
def lo2 (g : Group) : BitVec 2 := g.extractLsb' 0 2

/-- assemble(g_0, …, g_7) = g_0 ++ … ++ g_7 (R5), the groups given first to last. -/
def assemble (gs : List Group) : Wide := gs.foldl (fun w g => (w <<< 6) ||| g.setWidth 48) 0

/-- adj(w, i): the sharing invariant between group i and the next group, cyclically (R9). -/
def adj (w : Wide) (i : Nat) : Bool := lo2 (group w i) == hi2 (group w ((i + 1) % 8))

/-- The 48-bit value is consistent: adj(w, i) holds for all eight i (R9). -/
def consistent (w : Wide) : Bool := (List.range 8).all (adj w)

/-- sel_T(v) for a table of length m: FIPS output bit k is FIPS input bit T[k], where FIPS bit n of a w-bit value is bit
w − n, so that the first entry gives the most significant bit (R4). -/
def sel {w : Nat} (m : Nat) (T : List (BitVec 6)) (v : BitVec w) : BitVec m :=
  (BitVec.ofBoolListBE (T.map fun t => v.getLsbD (w - t.toNat))).setWidth m

end Sys2Proof.Machine
end

