-- ==== Sys2Proof/Machine/Rom.lean ====
section
/-! DEFINITION. The ROM tables (20_memory.md R38 to R45), entry for entry as the spec prints them. They are constants: "No
command, host access or reset writes them" (R28; log 8). Permutation entries are 1-based FIPS bit numbers (R4). -/

namespace Sys2Proof.Machine

/-- ROM_E: FIPS output position k takes FIPS input bit ROM_E[k] (R39), six entries for each group. -/
def romE : List (BitVec 6) :=
  [32, 1, 2, 3, 4, 5] ++
  [4, 5, 6, 7, 8, 9] ++
  [8, 9, 10, 11, 12, 13] ++
  [12, 13, 14, 15, 16, 17] ++
  [16, 17, 18, 19, 20, 21] ++
  [20, 21, 22, 23, 24, 25] ++
  [24, 25, 26, 27, 28, 29] ++
  [28, 29, 30, 31, 32, 1]

/-- ROM_EINV: for FIPS input bit j, the first FIPS position where E placed it (R41). -/
def romEinv : List (BitVec 6) :=
  [2, 3, 4, 5, 6, 9, 10, 11] ++
  [12, 15, 16, 17, 18, 21, 22, 23] ++
  [24, 27, 28, 29, 30, 33, 34, 35] ++
  [36, 39, 40, 41, 42, 45, 46, 1]

/-- ROM_P (R42). -/
def romP : List (BitVec 6) :=
  [16, 7, 20, 21, 29, 12, 28, 17] ++
  [1, 15, 23, 26, 5, 18, 31, 10] ++
  [2, 8, 24, 14, 32, 27, 3, 9] ++
  [19, 13, 30, 6, 22, 11, 4, 25]

/-- ROM_PINV: the inverse of P (R43). -/
def romPinv : List (BitVec 6) :=
  [9, 17, 23, 31, 13, 28, 2, 18] ++
  [24, 16, 30, 6, 26, 20, 10, 1] ++
  [8, 14, 25, 3, 4, 29, 11, 19] ++
  [32, 12, 22, 7, 5, 27, 15, 21]

/-- ROM_SBOX[0], the standard's S1: rows 0..3 of columns 0..15 (R44). -/
def romSbox0 : List (List Nibble) :=
  [[14, 4, 13, 1, 2, 15, 11, 8, 3, 10, 6, 12, 5, 9, 0, 7],
   [0, 15, 7, 4, 14, 2, 13, 1, 10, 6, 12, 11, 9, 5, 3, 8],
   [4, 1, 14, 8, 13, 6, 2, 11, 15, 12, 9, 7, 3, 10, 5, 0],
   [15, 12, 8, 2, 4, 9, 1, 7, 5, 11, 3, 14, 10, 0, 6, 13]]

/-- ROM_SBOX[1], the standard's S2: rows 0..3 of columns 0..15 (R44). -/
def romSbox1 : List (List Nibble) :=
  [[15, 1, 8, 14, 6, 11, 3, 4, 9, 7, 2, 13, 12, 0, 5, 10],
   [3, 13, 4, 7, 15, 2, 8, 14, 12, 0, 1, 10, 6, 9, 11, 5],
   [0, 14, 7, 11, 10, 4, 13, 1, 5, 8, 12, 6, 9, 3, 2, 15],
   [13, 8, 10, 1, 3, 15, 4, 2, 11, 6, 7, 12, 0, 5, 14, 9]]

/-- ROM_SBOX[2], the standard's S3: rows 0..3 of columns 0..15 (R44). -/
def romSbox2 : List (List Nibble) :=
  [[10, 0, 9, 14, 6, 3, 15, 5, 1, 13, 12, 7, 11, 4, 2, 8],
   [13, 7, 0, 9, 3, 4, 6, 10, 2, 8, 5, 14, 12, 11, 15, 1],
   [13, 6, 4, 9, 8, 15, 3, 0, 11, 1, 2, 12, 5, 10, 14, 7],
   [1, 10, 13, 0, 6, 9, 8, 7, 4, 15, 14, 3, 11, 5, 2, 12]]

/-- ROM_SBOX[3], the standard's S4: rows 0..3 of columns 0..15 (R44). -/
def romSbox3 : List (List Nibble) :=
  [[7, 13, 14, 3, 0, 6, 9, 10, 1, 2, 8, 5, 11, 12, 4, 15],
   [13, 8, 11, 5, 6, 15, 0, 3, 4, 7, 2, 12, 1, 10, 14, 9],
   [10, 6, 9, 0, 12, 11, 7, 13, 15, 1, 3, 14, 5, 2, 8, 4],
   [3, 15, 0, 6, 10, 1, 13, 8, 9, 4, 5, 11, 12, 7, 2, 14]]

/-- ROM_SBOX[4], the standard's S5: rows 0..3 of columns 0..15 (R44). -/
def romSbox4 : List (List Nibble) :=
  [[2, 12, 4, 1, 7, 10, 11, 6, 8, 5, 3, 15, 13, 0, 14, 9],
   [14, 11, 2, 12, 4, 7, 13, 1, 5, 0, 15, 10, 3, 9, 8, 6],
   [4, 2, 1, 11, 10, 13, 7, 8, 15, 9, 12, 5, 6, 3, 0, 14],
   [11, 8, 12, 7, 1, 14, 2, 13, 6, 15, 0, 9, 10, 4, 5, 3]]

/-- ROM_SBOX[5], the standard's S6: rows 0..3 of columns 0..15 (R44). -/
def romSbox5 : List (List Nibble) :=
  [[12, 1, 10, 15, 9, 2, 6, 8, 0, 13, 3, 4, 14, 7, 5, 11],
   [10, 15, 4, 2, 7, 12, 9, 5, 6, 1, 13, 14, 0, 11, 3, 8],
   [9, 14, 15, 5, 2, 8, 12, 3, 7, 0, 4, 10, 1, 13, 11, 6],
   [4, 3, 2, 12, 9, 5, 15, 10, 11, 14, 1, 7, 6, 0, 8, 13]]

/-- ROM_SBOX[6], the standard's S7: rows 0..3 of columns 0..15 (R44). -/
def romSbox6 : List (List Nibble) :=
  [[4, 11, 2, 14, 15, 0, 8, 13, 3, 12, 9, 7, 5, 10, 6, 1],
   [13, 0, 11, 7, 4, 9, 1, 10, 14, 3, 5, 12, 2, 15, 8, 6],
   [1, 4, 11, 13, 12, 3, 7, 14, 10, 15, 6, 8, 0, 5, 9, 2],
   [6, 11, 13, 8, 1, 4, 10, 7, 9, 5, 0, 15, 14, 2, 3, 12]]

/-- ROM_SBOX[7], the standard's S8: rows 0..3 of columns 0..15 (R44). -/
def romSbox7 : List (List Nibble) :=
  [[13, 2, 8, 4, 6, 15, 11, 1, 10, 9, 3, 14, 5, 0, 12, 7],
   [1, 15, 13, 8, 10, 3, 7, 4, 12, 5, 6, 11, 0, 14, 9, 2],
   [7, 11, 4, 1, 9, 12, 14, 2, 0, 6, 10, 13, 15, 3, 5, 8],
   [2, 1, 14, 7, 4, 10, 8, 13, 15, 12, 9, 0, 3, 5, 6, 11]]

/-- ROM_SINV[0]: for each output nibble n = 0..15, its four 6-bit preimages, ascending (R45). -/
def romSinv0 : List (List Group) :=
  [[0x01, 0x1C, 0x3B, 0x3E], [0x06, 0x0F, 0x22, 0x2D], [0x08, 0x0B, 0x27, 0x2C], [0x10, 0x1D, 0x35, 0x38],
   [0x02, 0x07, 0x20, 0x29], [0x18, 0x1B, 0x31, 0x3C], [0x13, 0x14, 0x2A, 0x3D], [0x05, 0x1E, 0x2F, 0x36]] ++
  [[0x0E, 0x1F, 0x25, 0x26], [0x19, 0x1A, 0x2B, 0x34], [0x11, 0x12, 0x39, 0x3A], [0x0C, 0x17, 0x2E, 0x33],
   [0x15, 0x16, 0x23, 0x32], [0x04, 0x0D, 0x28, 0x3F], [0x00, 0x09, 0x24, 0x37], [0x03, 0x0A, 0x21, 0x30]]

/-- ROM_SINV[1]: for each output nibble n = 0..15, its four 6-bit preimages, ascending (R45). -/
def romSinv1 : List (List Group) :=
  [[0x13, 0x1A, 0x20, 0x39], [0x02, 0x15, 0x27, 0x2E], [0x0B, 0x14, 0x2F, 0x3C], [0x01, 0x0C, 0x29, 0x3A],
   [0x05, 0x0E, 0x2A, 0x2D], [0x1C, 0x1F, 0x30, 0x3B], [0x08, 0x19, 0x33, 0x36], [0x07, 0x12, 0x24, 0x35]] ++
  [[0x04, 0x0D, 0x23, 0x32], [0x10, 0x1B, 0x38, 0x3F], [0x17, 0x1E, 0x25, 0x28], [0x0A, 0x1D, 0x26, 0x31],
   [0x11, 0x18, 0x34, 0x37], [0x03, 0x16, 0x21, 0x2C], [0x06, 0x0F, 0x22, 0x3D], [0x00, 0x09, 0x2B, 0x3E]]

/-- ROM_SINV[2]: for each output nibble n = 0..15, its four 6-bit preimages, ascending (R45). -/
def romSinv2 : List (List Group) :=
  [[0x02, 0x05, 0x27, 0x2E], [0x10, 0x1F, 0x21, 0x32], [0x11, 0x1C, 0x34, 0x3D], [0x09, 0x0A, 0x2C, 0x37],
   [0x0B, 0x1A, 0x24, 0x31], [0x0E, 0x15, 0x38, 0x3B], [0x08, 0x0D, 0x22, 0x29], [0x03, 0x16, 0x2F, 0x3E]] ++
  [[0x13, 0x1E, 0x28, 0x2D], [0x04, 0x07, 0x26, 0x2B], [0x00, 0x0F, 0x23, 0x3A], [0x18, 0x1B, 0x30, 0x39],
   [0x14, 0x19, 0x36, 0x3F], [0x01, 0x12, 0x20, 0x25], [0x06, 0x17, 0x35, 0x3C], [0x0C, 0x1D, 0x2A, 0x33]]

/-- ROM_SINV[3]: for each output nibble n = 0..15, its four 6-bit preimages, ascending (R45). -/
def romSinv3 : List (List Group) :=
  [[0x08, 0x0D, 0x25, 0x26], [0x10, 0x19, 0x2B, 0x32], [0x12, 0x15, 0x3A, 0x3D], [0x06, 0x0F, 0x21, 0x34],
   [0x11, 0x1C, 0x33, 0x3E], [0x07, 0x16, 0x35, 0x38], [0x09, 0x0A, 0x22, 0x27], [0x00, 0x13, 0x2C, 0x3B]] ++
  [[0x03, 0x14, 0x2F, 0x3C], [0x0C, 0x1F, 0x24, 0x31], [0x0E, 0x1B, 0x20, 0x29], [0x05, 0x18, 0x2A, 0x37],
   [0x17, 0x1A, 0x28, 0x39], [0x01, 0x02, 0x2D, 0x2E], [0x04, 0x1D, 0x36, 0x3F], [0x0B, 0x1E, 0x23, 0x30]]

/-- ROM_SINV[4]: for each output nibble n = 0..15, its four 6-bit preimages, ascending (R45). -/
def romSinv4 : List (List Group) :=
  [[0x13, 0x1A, 0x35, 0x3C], [0x06, 0x0F, 0x24, 0x29], [0x00, 0x05, 0x22, 0x2D], [0x14, 0x19, 0x3A, 0x3F],
   [0x04, 0x09, 0x20, 0x3B], [0x11, 0x12, 0x36, 0x3D], [0x0E, 0x1F, 0x31, 0x38], [0x08, 0x0B, 0x27, 0x2C]] ++
  [[0x10, 0x1D, 0x23, 0x2E], [0x1B, 0x1E, 0x32, 0x37], [0x0A, 0x17, 0x28, 0x39], [0x03, 0x0C, 0x21, 0x26],
   [0x02, 0x07, 0x25, 0x34], [0x0D, 0x18, 0x2A, 0x2F], [0x01, 0x1C, 0x2B, 0x3E], [0x15, 0x16, 0x30, 0x33]]

/-- ROM_SINV[5]: for each output nibble n = 0..15, its four 6-bit preimages, ascending (R45). -/
def romSinv5 : List (List Group) :=
  [[0x10, 0x19, 0x32, 0x3B], [0x02, 0x13, 0x35, 0x38], [0x07, 0x0A, 0x25, 0x28], [0x14, 0x1D, 0x23, 0x2E],
   [0x05, 0x16, 0x21, 0x34], [0x0F, 0x1C, 0x26, 0x2B], [0x0C, 0x11, 0x39, 0x3E], [0x09, 0x1A, 0x30, 0x37]] ++
  [[0x0E, 0x1F, 0x2A, 0x3D], [0x08, 0x0D, 0x20, 0x29], [0x01, 0x04, 0x2F, 0x36], [0x1B, 0x1E, 0x31, 0x3C],
   [0x00, 0x0B, 0x27, 0x2C], [0x12, 0x15, 0x3A, 0x3F], [0x17, 0x18, 0x22, 0x33], [0x03, 0x06, 0x24, 0x2D]]

/-- ROM_SINV[6]: for each output nibble n = 0..15, its four 6-bit preimages, ascending (R45). -/
def romSinv6 : List (List Group) :=
  [[0x03, 0x0A, 0x35, 0x38], [0x0D, 0x1E, 0x20, 0x29], [0x04, 0x19, 0x3B, 0x3E], [0x10, 0x13, 0x2A, 0x3D],
   [0x00, 0x09, 0x22, 0x2B], [0x15, 0x18, 0x33, 0x3A], [0x1C, 0x1F, 0x21, 0x34], [0x07, 0x16, 0x2C, 0x2F]] ++
  [[0x0C, 0x1D, 0x27, 0x36], [0x0B, 0x14, 0x31, 0x3C], [0x0F, 0x1A, 0x2D, 0x30], [0x02, 0x05, 0x23, 0x24],
   [0x12, 0x17, 0x28, 0x3F], [0x01, 0x0E, 0x25, 0x26], [0x06, 0x11, 0x2E, 0x39], [0x08, 0x1B, 0x32, 0x37]]

/-- ROM_SINV[7]: for each output nibble n = 0..15, its four 6-bit preimages, ascending (R45). -/
def romSinv7 : List (List Group) :=
  [[0x19, 0x1A, 0x30, 0x37], [0x01, 0x0E, 0x23, 0x26], [0x02, 0x1F, 0x21, 0x2E], [0x0B, 0x14, 0x39, 0x3A],
   [0x06, 0x0F, 0x24, 0x29], [0x13, 0x18, 0x3B, 0x3C], [0x08, 0x15, 0x32, 0x3D], [0x0D, 0x1E, 0x20, 0x27]] ++
  [[0x04, 0x07, 0x2D, 0x3E], [0x12, 0x1D, 0x28, 0x35], [0x09, 0x10, 0x2B, 0x34], [0x0C, 0x17, 0x22, 0x3F],
   [0x11, 0x1C, 0x2A, 0x33], [0x00, 0x05, 0x2F, 0x36], [0x16, 0x1B, 0x25, 0x2C], [0x03, 0x0A, 0x31, 0x38]]

/-- The read-only arrays CORE holds (R38). -/
structure Rom where
  e : List (BitVec 6)
  einv : List (BitVec 6)
  p : List (BitVec 6)
  pinv : List (BitVec 6)
  sbox : List (List (List Nibble))
  sinv : List (List (List Group))
  deriving DecidableEq, Repr

/-- CORE's ROM contents. -/
def rom : Rom :=
  { e := romE, einv := romEinv, p := romP, pinv := romPinv,
    sbox := [romSbox0, romSbox1, romSbox2, romSbox3, romSbox4, romSbox5, romSbox6, romSbox7],
    sinv := [romSinv0, romSinv1, romSinv2, romSinv3, romSinv4, romSinv5, romSinv6, romSinv7] }

end Sys2Proof.Machine
end

