-- ==== Sys2Proof/Machine/Functions.lean ====
section
/-! DEFINITION. The functions the commands compute: E, E⁻¹, P, P⁻¹ (R39 to R43), the S-boxes and their inverses (R44, R45),
the substitution S (R64), the round function (R68), the eight adjacencies (R83), table entries (R63) and the table
self-test (R86). -/

namespace Sys2Proof.Machine

/-- E(x) = sel_E(x) (R39). -/
def expand (x : Word) : Wide := sel 48 rom.e x

/-- E⁻¹(w) = sel_EINV(w) (R41). -/
def unexpand (w : Wide) : Word := sel 32 rom.einv w

/-- P(s) = sel_P(s) (R42). -/
def permute (s : Word) : Word := sel 32 rom.p s

/-- P⁻¹(y) = sel_PINV(y) (R43). -/
def unpermute (y : Word) : Word := sel 32 rom.pinv y

/-- The entry of a set of S-boxes that S-box i reads for the input g: row(g), column col(g) (R44). -/
def sboxOf (boxes : List (List (List Nibble))) (i : Nat) (g : Group) : Nibble :=
  ((boxes.getD i []).getD (row g).toNat []).getD (col g).toNat 0

/-- sbox(i, g) = ROM_SBOX[i][row(g)][col(g)] (R44). -/
def sbox (i : Nat) (g : Group) : Nibble := sboxOf rom.sbox i g

/-- ROM_SINV[i][n], in the order of its slots (R45). -/
def sinv (i : Nat) (n : Nibble) : List Group := (rom.sinv.getD i []).getD n.toNat []

/-- The substitution S: group i goes through S-box i to nibble i (R64). -/
def subst (w : Wide) : Word :=
  sbox 0 (group w 0) ++ sbox 1 (group w 1) ++ sbox 2 (group w 2) ++ sbox 3 (group w 3) ++
    sbox 4 (group w 4) ++ sbox 5 (group w 5) ++ sbox 6 (group w 6) ++ sbox 7 (group w 7)

/-- round_K(x) = P(S(E(x) XOR K)) (R68). -/
def roundK (k : Wide) (x : Word) : Word := permute (subst (expand x ^^^ k))

/-- The eight adjacencies of a 48-bit value: bit i is adj(w, i) (R83). -/
def adjMask (w : Wide) : BitVec 8 := (BitVec.ofBoolListLE ((List.range 8).map (adj w))).setWidth 8

/-- An inverse S-box entry in one word: the count in bits 26..24, then p3, p2, p1 and p0 (R67). -/
def packPreimages (ps : List Group) : Word :=
  (BitVec.ofNat 3 ps.length ++ ps.getD 3 0 ++ ps.getD 2 0 ++ ps.getD 1 0 ++ ps.getD 0 0 : BitVec 27).setWidth 32

/-- The table TBLRD's selector names: 0 = E, 1 = E⁻¹, 2 = P, 3 = P⁻¹; 4..7 name none (R48). -/
def tableOf (t : BitVec 3) : Option (List (BitVec 6)) :=
  match t.toNat with
  | 0 => some rom.e
  | 1 => some rom.einv
  | 2 => some rom.p
  | 3 => some rom.pinv
  | _ => none

/-- ROM_T[k], k counted from 1 (R38). -/
def entry (T : List (BitVec 6)) (k : Nat) : Option (BitVec 6) := if k = 0 then none else T[k - 1]?

/-- The numbers a, a + 1, …, b: the inclusive loop of R11. -/
def upTo (a b : Nat) : List Nat := (List.range (b + 1 - a)).map (a + ·)

/-- ROM_T[k] is a number in 1..m (R86). -/
def entryIn (T : List (BitVec 6)) (m k : Nat) : Bool :=
  match entry T k with
  | some v => decide (1 ≤ v.toNat ∧ v.toNat ≤ m)
  | none => false

/-- ROM_T[ROM_U[j]] = j (R86). -/
def undoes (T U : List (BitVec 6)) (j : Nat) : Bool :=
  match entry U j with
  | some k => (entry T k.toNat).map BitVec.toNat == some j
  | none => false

/-- Check (a) of R86: P permutes 1..32, and P and P⁻¹ undo each other. -/
def permutationsOk (r : Rom) : Bool :=
  (upTo 1 32).all (fun k => entryIn r.p 32 k) &&
    (upTo 1 32).all (fun n => (upTo 1 32).any fun k => (entry r.p k).map BitVec.toNat == some n) &&
    (upTo 1 32).all (fun k => undoes r.pinv r.p k && undoes r.p r.pinv k)

/-- Check (b) of R86: E's entries are in 1..32, and E⁻¹ names for every input bit a position where E placed it. -/
def expansionOk (r : Rom) : Bool :=
  (upTo 1 48).all (fun k => entryIn r.e 32 k) &&
    (upTo 1 32).all (fun j => entryIn r.einv 48 j && undoes r.e r.einv j)

/-- The inputs that S-box i of a set maps to n, ascending (R45). -/
def preimages (boxes : List (List (List Nibble))) (i : Nat) (n : Nibble) : List Group :=
  ((List.range 64).map (BitVec.ofNat 6)).filter fun g => sboxOf boxes i g == n

/-- Check (c) of R86: each inverse S-box entry lists exactly the inputs of its output, and there are four. -/
def sboxesOk (r : Rom) : Bool :=
  (List.range 8).all fun i => (List.range 16).all fun n =>
    let slots := (r.sinv.getD i []).getD n []
    slots == preimages r.sbox i (BitVec.ofNat 4 n) && slots.length == 4

/-- tables_ok() (R86), for any ROM contents. -/
def tablesOk (r : Rom) : Bool := permutationsOk r && expansionOk r && sboxesOk r

end Sys2Proof.Machine
end

