-- ==== Sys2Proof/Machine/SearchUnit.lean ====
section
/-! DEFINITION. The constraint-filtering search unit (43_inverter.md R72 to R79): what it starts from, one step of its
depth-first search, and the state it ends in. -/

namespace Sys2Proof.Machine

/-- C_i: the values group i of E(x) may hold, the S-box inputs of nibble i of P⁻¹(y), each XORed with group(K, i)
(R73, R74). -/
def candidateSet (y : Word) (k : Wide) (i : Nat) : List Group :=
  (sinv i (nib (unpermute y) i)).map (· ^^^ group k i)

/-- The search at the issue of INVERT: the eight candidate sets, the empty assignment to extend, and R empty
(R74, R75, R77). -/
def Search.start (y : Word) (k : Wide) : Search :=
  { cands := (List.range 8).map (candidateSet y k), stack := [[]], found := [], violated := false }

/-- A value v may follow a partial assignment: it is the first group, or its two high bits are the two low bits of the
group before it (R75). -/
def fits (p : List Group) (v : Group) : Bool :=
  match p with
  | [] => true
  | g :: _ => lo2 g == hi2 v

/-- The partial assignments that extend p by one group, in the order of the slots (R75). -/
def extend (p C : List Group) : List (List Group) := (C.filter (fits p)).map (· :: p)

/-- The wrap-around pair of a full tuple held newest first: g_7[1:0] = g_0[5:4] (R75). -/
def wraps (p : List Group) : Bool :=
  match p.head?, p.getLast? with
  | some g7, some g0 => lo2 g7 == hi2 g0
  | _, _ => false

/-- The full tuples, newest group first, that the search emits below the partial assignment p, the sets still to choose
from being given (R75). -/
def tuplesBelow : List (List Group) → List Group → List (List Group)
  | [], p => if wraps p then [p] else []
  | C :: Cs, p => (extend p C).flatMap (tuplesBelow Cs)

/-- The candidate of an emitted tuple: E⁻¹ of the assembled word (R76). -/
def candidateOf (p : List Group) : Word := unexpand (assemble p.reverse)

/-- Insertion into an ascending list, where an equal value is kept once (R77, R80). -/
def insertAsc (x : Word) : List Word → List Word
  | [] => [x]
  | a :: l => if x.toNat < a.toNat then x :: a :: l else if x = a then a :: l else a :: insertAsc x l

/-- Step 5 for one emitted tuple: keep the candidate if its round output is y; else a soundness violation has occurred and
the search goes on (R77, R78). -/
def Search.verify (y : Word) (k : Wide) (σ : Search) (p : List Group) : Search :=
  if roundK k (candidateOf p) = y then { σ with found := insertAsc (candidateOf p) σ.found }
  else { σ with violated := true }

/-- Step 5 for a list of emitted tuples, in order. -/
def Search.verifyAll (y : Word) (k : Wide) (σ : Search) (ps : List (List Group)) : Search :=
  ps.foldl (Search.verify y k) σ

/-- One step of the depth-first search: take the next partial assignment; replace it by its extensions, or, when it is
full, emit and verify it if it wraps (R75 to R78). -/
def Search.next (y : Word) (k : Wide) (σ : Search) : Search :=
  match σ.stack with
  | [] => σ
  | p :: rest =>
    match σ.cands.drop p.length with
    | [] => Search.verifyAll y k { σ with stack := rest } (tuplesBelow [] p)
    | C :: _ => { σ with stack := extend p C ++ rest }

/-- The search run to its end: every tuple below every partial assignment of the stack is verified, in the order of the
stack (R75 to R78). -/
def Search.finish (y : Word) (k : Wide) (σ : Search) : Search :=
  Search.verifyAll y k { σ with stack := [] }
    (σ.stack.flatMap fun p => tuplesBelow (σ.cands.drop p.length) p)

/-- The overflow indication: R holds more than CAND_MAX = 16 members (R79). -/
def Search.overflows (σ : Search) : Bool := decide (16 < σ.found.length)

end Sys2Proof.Machine
end

