-- ==== Sys2Proof/Machine/Ops.lean ====
section
/-! DEFINITION. The named operations over registers: the completion step's writes (R52, R55), a CMD write (R54), the
register window (R29 to R33), the self-test's end (R101) and reset (R100). CORE takes no exceptions (R94): what a spec of a
processor would call taking one is `State.reject` here, the record of an error (R90, R91). -/

namespace Sys2Proof.Machine

/-- The end of a completion step: phase <- IDLE, BUSY <- 0 (R55). -/
def State.completed (s : State) : State := { s with phase := .idle, status := s.status.release }

/-- A 48-bit result: RES1 <- r[47:32], RES0 <- r[31:0] (R52). -/
def State.writeWide (r : Wide) (s : State) : State :=
  { s with res1 := r.extractLsb' 32 16, res0 := r.extractLsb' 0 32 }

/-- A result of 32 bits, or a narrower one widened with zeros: RES0 <- r, RES1 <- 0 (R52). -/
def State.writeWord (r : Word) (s : State) : State := { s with res0 := r, res1 := 0 }

/-- The candidate buffer for an ascending list: its first sixteen members, then zeros (R20, R80). -/
def candBuffer (l : List Word) : Vector Word 16 := Vector.ofFn fun j => l.getD j.val 0

/-- The number of candidates stored: m = min(|L|, 16) (R80). -/
def storedCount (l : List Word) : Nat := min l.length 16

/-- INVERT's writes for a finished search (R78 to R80, R93). -/
def State.writeSearch (σ : Search) (s : State) : State :=
  { s with
    search := σ
    cand := candBuffer σ.found
    cnt := BitVec.ofNat 5 (storedCount σ.found)
    res0 := BitVec.ofNat 32 (storedCount σ.found)
    res1 := 0
    status := s.status.searched σ.violated σ.overflows }

/-- A self-test's end, CORE's verdict on its tables being `ok` (R87, R101). -/
def State.selfTestDone (ok : Bool) (s : State) : State :=
  State.completed { s with status := s.status.selfTest ok }

/-- raise Error(e): the error is recorded and the command is lost; nothing else changes (R54, R90, R91). -/
def State.reject (e : ErrCode) (s : State) : State := { s with status := s.status.record e }

/-- The search state at the issue of a command: INVERT starts a new search, any other command leaves it (R74, R77). -/
def searchAtIssue (i : Instr) (s : State) : Search :=
  if i = .invert then .start s.arg0 s.subkey else s.search

/-- An accepted command is issued: the operands are latched, the phase becomes RUN and BUSY becomes 1 (R26, R54). -/
def State.issue (i : Instr) (c : Word) (s : State) : State :=
  { s with
    lat := { op := opOf c, sel := selOf c, arg0 := s.arg0, arg1 := s.arg1, key := s.subkey }
    phase := .run i
    search := searchAtIssue i s
    status := s.status.take }

/-- A host write of the word c to CMD, its checks in the order of R54 and R92. -/
def State.cmdWrite (c : Word) (s : State) : State :=
  if s.status.busy then s.reject .busyReject
  else
    match decode c with
    | .error _ => s.reject .illegalCmd
    | .ok i =>
      if s.status.cfgFault && !allowedInFault i then s.reject .cfgReject
      else if operandOutOfRange i s.arg0 then s.reject .badOperand
      else s.issue i c

/-! ## The register window -/

/-- The named registers of the window (10_state.md section 1). -/
inductive Reg where
  | cmd | status | arg0 | arg1 | key0 | key1 | res0 | res1 | cnt
  | cand (j : Fin 16)
  deriving DecidableEq, Repr

/-- The window's byte offset of a host address, BASE_ADDR being 0x100·page; none outside the window (R29). -/
def windowOffset (page addr : Nat) : Option Nat := if addr / 0x100 = page then some (addr % 0x100) else none

/-- The register at word k of the window, that is at offset 4·k; none where the offset is reserved (R21). -/
def regAt (k : Nat) : Option Reg :=
  match k with
  | 0 => some .cmd
  | 1 => some .status
  | 2 => some .arg0
  | 3 => some .arg1
  | 4 => some .key0
  | 5 => some .key1
  | 6 => some .res0
  | 7 => some .res1
  | 8 => some .cnt
  | k => if h : 16 ≤ k ∧ k < 32 then some (.cand ⟨k - 16, by omega⟩) else none

/-- The current value of a register as a read sees it; CMD reads 0 (R12 to R20). -/
def State.regValue (r : Reg) (s : State) : Word :=
  match r with
  | .cmd => 0
  | .status => s.status.word
  | .arg0 => s.arg0
  | .arg1 => s.arg1
  | .key0 => s.key0
  | .key1 => s.key1.setWidth 32
  | .res0 => s.res0
  | .res1 => s.res1.setWidth 32
  | .cnt => s.cnt.setWidth 32
  | .cand j => s.cand[j]

/-- RES0, RES1, CNT and CAND[j], whose reads are unspecified while BUSY = 1 (R105). -/
def Reg.isResult (r : Reg) : Bool :=
  match r with
  | .cmd => false
  | .status => false
  | .arg0 => false
  | .arg1 => false
  | .key0 => false
  | .key1 => false
  | .res0 => true
  | .res1 => true
  | .cnt => true
  | .cand _ => true

/-- A read of the register at word k: its current value, 0 at a reserved offset (R21, R32), or a fresh unspecified value
for a result register while BUSY = 1 (R105). Of CORE nothing changes: "No read has a side effect". -/
def State.readWord (k : Nat) (s : State) : State :=
  match regAt k with
  | none => { s with rdata := 0 }
  | some r =>
    if r.isResult && s.status.busy then { s with rdata := Config.freeWord s.draws, draws := s.draws + 1 }
    else { s with rdata := s.regValue r }

/-- A host write of v to STATUS (R14). -/
def State.statusWrite (v : Word) (s : State) : State := { s with status := s.status.clear v }

/-- A write of v to the register at word k; the registers that are read-only and the reserved offsets ignore it
(R21, R33). -/
def State.writeWordAt (k : Nat) (v : Word) (s : State) : State :=
  match regAt k with
  | none => s
  | some .cmd => s.cmdWrite v
  | some .status => s.statusWrite v
  | some .arg0 => { s with arg0 := v }
  | some .arg1 => { s with arg1 := v }
  | some .key0 => { s with key0 := v }
  | some .key1 => { s with key1 := v.extractLsb' 0 16 }
  | some .res0 => s
  | some .res1 => s
  | some .cnt => s
  | some (.cand _) => s

/-- The word of the window an access reaches: the address must lie in the window, the access be 32 bits wide and its
offset a multiple of 4 (R29, R30). -/
def State.access (addr nbytes : Nat) (s : State) : Except Fault Nat :=
  match windowOffset s.page addr with
  | none => .error .outsideWindow
  | some o => if nbytes = 4 ∧ o % 4 = 0 then .ok (o / 4) else .error .badAccess

/-- A host read (R30, R32). -/
def State.hostRead (addr nbytes : Nat) (s : State) : Host.Outcome State Fault Refusal :=
  match s.access addr nbytes with
  | .error f => .fault f
  | .ok k => .next (s.readWord k)

/-- A host write (R30, R33). -/
def State.hostWrite (addr nbytes : Nat) (v : Word) (s : State) : Host.Outcome State Fault Refusal :=
  match s.access addr nbytes with
  | .error f => .fault f
  | .ok k => .next (s.writeWordAt k v)

/-- Reset: every register, the latched operands, the search state and the phase take the values of R100, whatever ran
before (R102). What lies outside CORE stays: the events still to come, the bus data, the drawn values, BASE_ADDR (log 11). -/
def State.resetCore (s : State) : State :=
  { State.reset with agenda := s.agenda, rdata := s.rdata, draws := s.draws, page := s.page }

end Sys2Proof.Machine
end

