-- ==== Sys2Proof/Machine/Control.lean ====
section
/-! DEFINITION. The control commands: NOP, SELFTEST (44_control.md). -/

namespace Sys2Proof.Machine

/-- NOP: completes, with no register writes (R85). -/
def execNop (s : State) : Host.Outcome State Fault Refusal := .next s.completed

/-- SELFTEST: CFG_OK and CFG_FAULT from tables_ok(), CONFIG_DEFECT recorded on failure (R87). -/
def execSelftest (s : State) : Host.Outcome State Fault Refusal := .next (s.selfTestDone (tablesOk rom))

end Sys2Proof.Machine
end

