-- ==== Sys2Proof/Machine/Inverter.lean ====
section
/-! DEFINITION. The inverter's commands: ADJCHK, INVERT (43_inverter.md). The search itself is Machine/SearchUnit.lean. -/

namespace Sys2Proof.Machine

/-- ADJCHK: RES0[7:0] <- the eight adjacencies of W48 (R83). -/
def execAdjchk (s : State) : Host.Outcome State Fault Refusal :=
  .next (s.writeWord ((adjMask s.w48).setWidth 32)).completed

/-- INVERT: the search begun at issue is run to its end on the latched target and subkey, and CAND, CNT, RES0, RES1 and the
STATUS effects follow from what it found (R84). -/
def execInvert (s : State) : Host.Outcome State Fault Refusal :=
  .next (s.writeSearch (s.search.finish s.lat.arg0 s.lat.key)).completed

end Sys2Proof.Machine
end

