-- ==== Sys2Proof/Machine/Permutation.lean ====
section
/-! DEFINITION. The permutation pipeline: EXPAND, UNEXPAND, PERM, UNPERM, TBLRD (40_permutation.md). Each meaning is the
command's completion step (R55) from the operands latched at its issue (R50). -/

namespace Sys2Proof.Machine

/-- EXPAND: RES1:RES0 <- E(x) (R59). -/
def execExpand (s : State) : Host.Outcome State Fault Refusal :=
  .next (s.writeWide (expand s.lat.arg0)).completed

/-- UNEXPAND: RES0 <- E⁻¹(W48) (R60). -/
def execUnexpand (s : State) : Host.Outcome State Fault Refusal :=
  .next (s.writeWord (unexpand s.w48)).completed

/-- PERM: RES0 <- P(s) (R61). -/
def execPerm (s : State) : Host.Outcome State Fault Refusal :=
  .next (s.writeWord (permute s.lat.arg0)).completed

/-- UNPERM: RES0 <- P⁻¹(y) (R62). -/
def execUnperm (s : State) : Host.Outcome State Fault Refusal :=
  .next (s.writeWord (unpermute s.lat.arg0)).completed

/-- The entry TBLRD reads: entry k0 + 1 of table t (R63). -/
def tableEntry (t : BitVec 3) (k0 : Nat) : Option (BitVec 6) := (tableOf t).bind fun T => entry T (k0 + 1)

/-- TBLRD t: RES0 <- entry lat.arg0 + 1 of table t (R63). No accepted command asks for an entry that is not there (R49,
R51). -/
def execTblrd (t : BitVec 3) (s : State) : Host.Outcome State Fault Refusal :=
  match tableEntry t s.lat.arg0.toNat with
  | none => .fault .noTableEntry
  | some v => .next (s.writeWord (v.setWidth 32)).completed

end Sys2Proof.Machine
end

