-- ==== Sys2Proof/Machine/Round.lean ====
section
/-! DEFINITION. The round function and its verifier: ROUND, VERIFY (42_round.md). -/

namespace Sys2Proof.Machine

/-- ROUND: RES0 <- round_K(x) (R69). -/
def execRound (s : State) : Host.Outcome State Fault Refusal :=
  .next (s.writeWord (roundK s.lat.key s.lat.arg0)).completed

/-- VERIFY: RES0 <- 1 if round_K(x) = y, else 0; no error either way (R70). -/
def execVerify (s : State) : Host.Outcome State Fault Refusal :=
  .next (s.writeWord (if roundK s.lat.key s.lat.arg0 = s.lat.arg1 then 1 else 0)).completed

end Sys2Proof.Machine
end

