-- ==== Sys2Proof/Machine/Substitution.lean ====
section
/-! DEFINITION. The S-box lookup array: SUBST, SBOX, SBOXINV (41_substitution.md). -/

namespace Sys2Proof.Machine

/-- SUBST: RES0 <- S(W48), with no subkey (R65). -/
def execSubst (s : State) : Host.Outcome State Fault Refusal :=
  .next (s.writeWord (subst s.w48)).completed

/-- SBOX i: RES0 <- sbox(i, g[5:0]) (R66). -/
def execSbox (i : BitVec 3) (s : State) : Host.Outcome State Fault Refusal :=
  .next (s.writeWord ((sbox i.toNat s.sboxInput).setWidth 32)).completed

/-- SBOXINV i: RES0 <- the packed entry ROM_SINV[i][n[3:0]] (R67). -/
def execSboxinv (i : BitVec 3) (s : State) : Host.Outcome State Fault Refusal :=
  .next (s.writeWord (packPreimages (sinv i.toNat s.sboxOutput))).completed

end Sys2Proof.Machine
end

