-- ==== Sys2Proof/Machine/Dispatch.lean ====
section
/-! DEFINITION. One arm per command: the engine's completion step for a running command (R55). -/

namespace Sys2Proof.Machine

def exec (i : Instr) (s : State) : Host.Outcome State Fault Refusal :=
  match i with
  | .nop => Sys2Proof.Machine.execNop s
  | .expand => Sys2Proof.Machine.execExpand s
  | .unexpand => Sys2Proof.Machine.execUnexpand s
  | .subst => Sys2Proof.Machine.execSubst s
  | .perm => Sys2Proof.Machine.execPerm s
  | .unperm => Sys2Proof.Machine.execUnperm s
  | .round => Sys2Proof.Machine.execRound s
  | .invert => Sys2Proof.Machine.execInvert s
  | .verify => Sys2Proof.Machine.execVerify s
  | .sbox n => Sys2Proof.Machine.execSbox n s
  | .sboxinv n => Sys2Proof.Machine.execSboxinv n s
  | .tblrd t => Sys2Proof.Machine.execTblrd t s
  | .selftest => Sys2Proof.Machine.execSelftest s
  | .adjchk => Sys2Proof.Machine.execAdjchk s

end Sys2Proof.Machine
end

