-- ==== Sys2Proof/Machine/Events.lean ====
section
/-! DEFINITION. What each event does to the machine (R35), and how a command word is placed to run next. -/

namespace Sys2Proof.Machine

/-- The engine's completion step: of the running command (R55), or of the reset self-test (R101). An idle engine has
nothing to complete (R25). -/
def State.engineComplete (s : State) : Host.Outcome State Fault Refusal :=
  match s.phase with
  | .idle => .next s
  | .run i => exec i s
  | .selftestReset => .next (s.selfTestDone (tablesOk rom))

/-- One internal step of the search unit while INVERT runs (R27, R75); there is none otherwise. -/
def State.searchAdvance (s : State) : State :=
  if s.phase = .run .invert then { s with search := s.search.next s.lat.arg0 s.lat.key } else s

/-- One event. In the event that holds both a STATUS write and a completion, the completion's recording takes effect last
(R14, R90). -/
def State.handle (e : Event) (s : State) : Host.Outcome State Fault Refusal :=
  match e with
  | .write addr nbytes v => s.hostWrite addr nbytes v
  | .read addr nbytes => s.hostRead addr nbytes
  | .complete => s.engineComplete
  | .clearAtCompletion v => (s.statusWrite v).engineComplete
  | .searchStep => .next s.searchAdvance
  | .reset => .next s.resetCore

/-- The machine with the word c to run next. A legal word: c is issued, as by an accepted CMD write (R54), and its
completion is the next event. Any other word: the engine is idle and the write of c to CMD is the next event (log 5). -/
def State.placeCommand (c : Word) (s : State) : State :=
  match decode c with
  | .ok i => { s.issue i c with agenda := .complete :: s.agenda }
  | .error _ =>
    { s with phase := .idle, status := s.status.release, agenda := .write (0x100 * s.page) 4 c :: s.agenda }

end Sys2Proof.Machine
end

