-- ==== Sys2Proof/Machine/Step.lean ====
section
/-! DEFINITION. One step of the machine. -/

namespace Sys2Proof.Machine

/-- The next event of the agenda takes effect (R35). With no event to come, the engine completes what it runs, as weak
fairness requires (R108), and an idle engine waits. -/
def step (s : State) : Host.Outcome State Fault Refusal :=
  match s.agenda with
  | [] => s.engineComplete
  | e :: rest => State.handle e { s with agenda := rest }

/-- `s` with the command word of the low `nbits` bits of `w` placed so that the very next step runs it (log 5). -/
def State.withFetchWord (s : State) (nbits w : Nat) : State := s.placeCommand (BitVec.ofNat 32 (w % 2 ^ nbits))

end Sys2Proof.Machine
end

