-- ==== Sys2Proof/Machine/HostSyntax.lean ====
section
/-! DEFINITION. The host assembly notation and its pseudo-instructions, as the events they stand for (R57, R58). One line is
one bus access. -/

namespace Sys2Proof.Machine

/-- The offset of a register in the window (10_state.md section 1). -/
def Reg.offset (r : Reg) : Nat :=
  match r with
  | .cmd => 0x00
  | .status => 0x04
  | .arg0 => 0x08
  | .arg1 => 0x0C
  | .key0 => 0x10
  | .key1 => 0x14
  | .res0 => 0x18
  | .res1 => 0x1C
  | .cnt => 0x20
  | .cand j => 0x40 + 4 * j.val

/-- The host address of a register: BASE_ADDR + offset (R29). -/
def Reg.address (page : Nat) (r : Reg) : Nat := 0x100 * page + r.offset

/-- `WR <REG>, <imm32>` (R57). -/
def wr (page : Nat) (r : Reg) (v : Word) : Event := .write (r.address page) 4 v

/-- `RD <REG>` (R57). -/
def rd (page : Nat) (r : Reg) : Event := .read (r.address page) 4

/-- A command written as its mnemonic: WR CMD of its word (R57). -/
def cmdLine (page : Nat) (i : Instr) : Event := wr page .cmd (encode i)

/-- `POLL` that reads STATUS `busyReads` times with BUSY = 1, then, the engine's completion having taken place, once with
BUSY = 0 (R58). How many reads come before depends on LATENCY (log 12). -/
def poll (page busyReads : Nat) : List Event :=
  List.replicate busyReads (rd page .status) ++ [.complete, rd page .status]

/-- `LD48 <lo>, <hi>` (R58). -/
def ld48 (page : Nat) (lo hi : Word) : List Event := [wr page .arg0 lo, wr page .arg1 hi]

/-- `SETKEY <k48>` (R58). -/
def setKey (page : Nat) (k : Wide) : List Event :=
  [wr page .key0 (k.extractLsb' 0 32), wr page .key1 ((k.extractLsb' 32 16).setWidth 32)]

/-- `CALL <mnemonic> [sel]` (R58). -/
def call (page busyReads : Nat) (i : Instr) : List Event := cmdLine page i :: poll page busyReads

/-- `round <x>` (R58). -/
def roundLines (page busyReads : Nat) (x : Word) : List Event :=
  wr page .arg0 x :: (call page busyReads .round ++ [rd page .res0])

/-- `invert <y>`, the host reading the first n candidates (R58). -/
def invertLines (page busyReads : Nat) (y : Word) (n : Nat) : List Event :=
  wr page .arg0 y :: (call page busyReads .invert ++ rd page .cnt ::
    ((List.finRange 16).take n).map fun j => rd page (.cand j))

/-- `CLRERR` (R58). -/
def clrErr (page : Nat) : Event := wr page .status 0x00000038

end Sys2Proof.Machine
end

