-- ==== Sys2Proof/Safety.lean ====
section
/-! DEFINITION. The terms claims are stated in: the conditions a CMD write must meet (R54), the invariant every step keeps,
the absence of recorded defects (R81, R86), and the spec's closed forms of E (R40) and P (R42), written without the ROM. -/

namespace Sys2Proof.Machine

/-- The word c written to CMD now is accepted: BUSY = 0, c is legal, CFG_FAULT does not gate it, and its operand is in range
(R54, R88). -/
def State.Accepts (s : State) (c : Word) (i : Instr) : Prop :=
  s.status.busy = false ∧ decode c = .ok i ∧ (s.status.cfgFault = false ∨ i = .nop ∨ i = .selftest) ∧
    operandOutOfRange i s.arg0 = false

/-- The search state is one that some number of internal steps leads to from the search's start for the target y and
the subkey k (R74, R75). -/
def Search.Toward (y : Word) (k : Wide) (σ : Search) : Prop :=
  ∃ n : Nat, σ = (Search.next y k)^[n] (Search.start y k)

/-- What holds of the running command: its word was legal, its latched operand in range, and INVERT's search is under way
for the latched operands (R26, R51, R54). -/
structure State.Running (s : State) (i : Instr) : Prop where
  legal : i.wellFormed = true
  op : s.lat.op = i.op
  sel : s.lat.sel = i.sel
  inRange : operandOutOfRange i s.lat.arg0 = false
  search : i = .invert → s.search.Toward s.lat.arg0 s.lat.key

/-- CNT and CAND: at most sixteen candidates, strictly ascending, then zeros (R19, R20). -/
structure State.CandidatesOk (s : State) : Prop where
  count : s.cnt.toNat ≤ 16
  ascending : ∀ j k : Fin 16, j < k → k.val < s.cnt.toNat → s.cand[j].toNat < s.cand[k].toNat
  padded : ∀ j : Fin 16, s.cnt.toNat ≤ j.val → s.cand[j] = 0

/-- The invariant of the machine. -/
structure State.Inv (s : State) : Prop where
  /-- BUSY = 1 exactly when the phase is not IDLE (R25) -/
  busy : s.status.busy = true ↔ s.phase ≠ .idle
  /-- CFG_OK and CFG_FAULT are never both 1 (R13) -/
  exclusive : ¬(s.status.cfgOk = true ∧ s.status.cfgFault = true)
  /-- both are 0 only from reset until the reset self-test completes (R13) -/
  untested : s.phase = .selftestReset ↔ (s.status.cfgOk = false ∧ s.status.cfgFault = false)
  /-- ERRCODE is NONE exactly while no error is recorded (R89, R90) -/
  errCode : s.status.err = false ↔ s.status.errCode = .none
  /-- the running command was accepted (R54) -/
  running : ∀ i, s.phase = .run i → s.Running i
  /-- the candidate buffer (R20) -/
  candidates : s.CandidatesOk

/-- No defect is recorded: SOUND and CFG_FAULT are 0, which the ROM tables guarantee (R81, R86). -/
structure State.NoDefect (s : State) : Prop where
  inv : s.Inv
  sound : s.status.sound = false
  cfgFault : s.status.cfgFault = false

/-- The FIPS input bit at FIPS position k = 1..48 of E: group i = (k − 1) / 6 holds six circularly consecutive bits, the first
of them bit 4·i counted from 32 as 0 (R39, R40). -/
def eFips (k : Nat) : Nat := (4 * ((k - 1) / 6) + (k - 1) % 6 + 31) % 32 + 1

/-- P as the spec's flat list, FIPS positions 1..32 (R42). -/
def pFips : List Nat :=
  [16, 7, 20, 21, 29, 12, 28, 17, 1, 15, 23, 26, 5, 18, 31, 10] ++
  [2, 8, 24, 14, 32, 27, 3, 9, 19, 13, 30, 6, 22, 11, 4, 25]

/-- j's first FIPS position in E is k (R41). -/
def FirstInE (j k : Nat) : Prop := IsLeast {k | 1 ≤ k ∧ k ≤ 48 ∧ eFips k = j} k

end Sys2Proof.Machine
end

