-- ==== Sys2Proof/Certificates/Slice0/Obligations.lean ====
section
/-! DEFINITION. The statements for the provers, rule by rule. `page` is BASE_ADDR / 0x100 and ranges over every value, so a host
address is written 0x100 * s.page + offset (R29). A statement on a command's completion step names the whole next state, so that it
is its frame too (R53). -/

open Sys2Proof Sys2Proof.Machine

/-! ### Encoding -/

/-- R46 to R49, R56: a word stands for a command exactly when it is the encoding of that command and the command is
well-formed. -/
def Obligations.DecodingInvertsEncoding : Prop :=
  ∀ (c : Word) (i : Instr), decode c = .ok i ↔ (i.wellFormed = true ∧ encode i = c)

/-- R49: the legal words are the decoded ones, and an idle engine rejects any other word with ILLEGAL_CMD. Clause 2 is R49's
sentence "Equivalently, a word is legal exactly when it matches one row of `opcode_table.json` under that row's mask", which the spec
marks as derived from R47 and R48. -/
def Obligations.LegalWordsAreTheCommands : Prop :=
  (∀ c : Word, legal c = true ↔ ∃ i, decode c = .ok i) ∧
  (∀ c : Word, legal c = true ↔ ∃! r, r ∈ opcodeTable ∧ r.fits c = true) ∧
  (∀ (s : State) (c : Word) (rest : List Event), s.agenda = .write (0x100 * s.page) 4 c :: rest → s.status.busy = false →
    legal c = false →
    step s = .next { s with agenda := rest, status := { s.status with err := true, errCode := .illegalCmd } })

/-- R49, R56: the word of a command fits its own row of the opcode table and no other. -/
def Obligations.DecodedWordFitsItsRowOnly : Prop :=
  ∀ (c : Word) (i : Instr), decode c = .ok i → ∀ r ∈ opcodeTable, (r.fits c = true ↔ r.mnemonic = i.mnemonic)

/-- R47, R57: some words written out from the spec's encoding. -/
def Obligations.WrittenOutWordsDecode : Prop :=
  decode 0x00000000 = .ok .nop ∧ decode 0x00000001 = .ok .expand ∧ decode 0x00000003 = .ok .subst ∧
  decode 0x00000006 = .ok .round ∧ decode 0x00000007 = .ok .invert ∧ decode 0x00000709 = .ok (.sbox 7) ∧
  decode 0x0000030A = .ok (.sboxinv 3) ∧ decode 0x0000030B = .ok (.tblrd 3) ∧ decode 0x0000000D = .ok .adjchk ∧
  decode 0x0000000E = .error .unassignedOp ∧ decode 0x00000100 = .error .illegalSel ∧
  decode 0x0000040B = .error .illegalSel ∧ decode 0x00000801 = .error .reservedBits

/-! ### Issue -/

/-- R54, R92: a host write of c to CMD, its four rejections in their order, and the issue of an accepted command. -/
def Obligations.CmdWriteProcedure : Prop :=
  ∀ (s : State) (c : Word) (rest : List Event), s.agenda = .write (0x100 * s.page) 4 c :: rest →
    (s.status.busy = true →
      step s = .next { s with agenda := rest, status := { s.status with err := true, errCode := .busyReject } }) ∧
    (s.status.busy = false → legal c = false →
      step s = .next { s with agenda := rest, status := { s.status with err := true, errCode := .illegalCmd } }) ∧
    (s.status.busy = false → legal c = true → s.status.cfgFault = true →
      ¬(c.extractLsb' 0 8 = 0x00 ∨ c.extractLsb' 0 8 = 0x0C) →
      step s = .next { s with agenda := rest, status := { s.status with err := true, errCode := .cfgReject } }) ∧
    (∀ i, s.status.busy = false → decode c = .ok i →
      (s.status.cfgFault = false ∨ c.extractLsb' 0 8 = 0x00 ∨ c.extractLsb' 0 8 = 0x0C) →
      (operandOutOfRange i s.arg0 = true →
        step s = .next { s with agenda := rest, status := { s.status with err := true, errCode := .badOperand } }) ∧
      (operandOutOfRange i s.arg0 = false → ∃ σ : Search,
        step s = .next { s with
          agenda := rest
          lat := { op := c.extractLsb' 0 8, sel := c.extractLsb' 8 3, arg0 := s.arg0, arg1 := s.arg1,
                   key := s.key1 ++ s.key0 }
          phase := .run i
          search := σ
          status := { s.status with busy := true } }))

/-- R74, R77 in the model's form (log 9): the issue of INVERT starts the search of the target in ARG0 and the subkey KEY1:KEY0, which
is the search of the latched target and subkey, with no candidate found; the issue of any other command leaves the search state. -/
def Obligations.InvertIssueStartsItsSearch : Prop :=
  ∀ (s : State) (c : Word) (i : Instr) (rest : List Event), s.agenda = .write (0x100 * s.page) 4 c :: rest →
    s.Accepts c i → ∃ t, step s = .next t ∧ t.phase = .run i ∧ (i ≠ .invert → t.search = s.search) ∧
      (i = .invert → t.search = Search.start s.arg0 (s.key1 ++ s.key0) ∧ t.search.Toward t.lat.arg0 t.lat.key ∧
        t.search.found = [] ∧ t.search.violated = false)

/-- R51: which operands are rejected with BAD_OPERAND at issue; every other operand of every command is accepted. -/
def Obligations.OperandRangesCheckedAtIssue : Prop :=
  ∀ (s : State) (i : Instr) (rest : List Event), s.agenda = .write (0x100 * s.page) 4 (encode i) :: rest →
    s.status.busy = false → s.status.cfgFault = false → i.wellFormed = true →
    let bad : Prop := (∃ n, i = .sbox n ∧ 64 ≤ s.arg0.toNat) ∨ (∃ n, i = .sboxinv n ∧ 16 ≤ s.arg0.toNat) ∨
      (i = .tblrd 0 ∧ 48 ≤ s.arg0.toNat) ∨ (∃ t, i = .tblrd t ∧ t ≠ 0 ∧ 32 ≤ s.arg0.toNat)
    (bad → step s =
      .next { s with agenda := rest, status := { s.status with err := true, errCode := .badOperand } }) ∧
    (¬bad → ∃ t, step s = .next t ∧ t.phase = .run i ∧ t.status = { s.status with busy := true })

/-- R91: a CMD write that is not accepted changes STATUS.ERR and STATUS.ERRCODE and nothing else; the command is lost. -/
def Obligations.RejectedCommandChangesOnlyTheError : Prop :=
  ∀ (s : State) (c : Word) (rest : List Event), s.agenda = .write (0x100 * s.page) 4 c :: rest →
    (∀ i, ¬s.Accepts c i) →
    ∃ e ∈ [ErrCode.illegalCmd, .busyReject, .badOperand, .cfgReject],
      step s = .next { s with agenda := rest, status := { s.status with err := true, errCode := e } }

/-- R88: while CFG_FAULT = 1, every command but NOP and SELFTEST is rejected with CFG_REJECT and these two are issued; and
CFG_FAULT is cleared only by the completion of SELFTEST or of a reset's self-test, or by the reset itself (R100). -/
def Obligations.ConfigFaultGatesCommands : Prop :=
  (∀ (s : State) (c : Word) (i : Instr) (rest : List Event), s.agenda = .write (0x100 * s.page) 4 c :: rest →
    s.status.busy = false → s.status.cfgFault = true → decode c = .ok i →
    (i ≠ .nop → i ≠ .selftest →
      step s = .next { s with agenda := rest, status := { s.status with err := true, errCode := .cfgReject } }) ∧
    (i = .nop ∨ i = .selftest → ∃ t, step s = .next t ∧ t.phase = .run i)) ∧
  (∀ s t : State, step s = .next t → s.status.cfgFault = true → t.status.cfgFault = false →
    (s.phase = .run .selftest ∧ t.phase = .idle) ∨ (s.phase = .selftestReset ∧ t.phase = .idle) ∨
      ∃ rest, s.agenda = .reset :: rest)

/-! ### A step runs the decoded command -/

/-- R55: while a command runs, the completion event is `exec` of that command (clause 2). Clauses 1 and 3 are the model's choice: with
no event to come a step is that completion, which is log 1's form of R108's weak fairness, and a STATUS write in the same event comes
before it, which is log 10's event for the coincidence R14 and R90 name. -/
def Obligations.CompletionRunsTheRunningCommand : Prop :=
  ∀ (s : State) (i : Instr), s.phase = .run i →
    (s.agenda = [] → step s = exec i s) ∧
    (∀ rest, s.agenda = .complete :: rest → step s = exec i { s with agenda := rest }) ∧
    (∀ v rest, s.agenda = .clearAtCompletion v :: rest → step s = exec i (State.statusWrite v { s with agenda := rest }))

/-- R54, R55: an accepted CMD write followed by the engine's completion is `exec` of the command the word decodes to, on the
state with that command issued; and a word placed by withFetchWord is run by the very next step (log 5). -/
def Obligations.AcceptedWordRunsItsCommand : Prop :=
  (∀ (s : State) (c : Word) (i : Instr) (rest : List Event),
    s.agenda = .write (0x100 * s.page) 4 c :: .complete :: rest → s.Accepts c i →
    Host.Core.run Sys2Proof.core 2 s =
      match exec i (State.issue i c { s with agenda := rest }) with
      | .next t => .next t
      | .fault f => .fault f
      | .refused r => .refused r) ∧
  (∀ (s : State) (w : Nat) (i : Instr), w < 2 ^ 32 → decode (BitVec.ofNat 32 w) = .ok i →
    step (s.withFetchWord 32 w) = exec i (s.issue i (BitVec.ofNat 32 w)))

/-! ### The permutation pipeline -/

/-- EXPAND (R59) by the closed form of E (R40): bit 5 − j of group i of RES1:RES0 is bit (32 − 4·i − j) mod 32 of the
operand; nothing else but the end of the command changes. -/
def Obligations.ExpandSpreadsTheOperandBits : Prop :=
  ∀ s : State, ∃ t, exec .expand s = .next t ∧
    t = { s with res0 := t.res0, res1 := t.res1, phase := .idle, status := { s.status with busy := false } } ∧
    ∀ i j, i < 8 → j < 6 →
      (t.res1 ++ t.res0).getLsbD (6 * (7 - i) + (5 - j)) = s.lat.arg0.getLsbD ((64 - 4 * i - j) % 32)

/-- UNEXPAND (R60): FIPS bit j of RES0 is the bit of W48 at j's first position in E (R41); RES1 is 0. -/
def Obligations.UnexpandReadsFirstOccurrences : Prop :=
  ∀ s : State, ∃ t, exec .unexpand s = .next t ∧
    t = { s with res0 := t.res0, res1 := 0, phase := .idle, status := { s.status with busy := false } } ∧
    ∀ j k, 1 ≤ j → j ≤ 32 → FirstInE j k →
      t.res0.getLsbD (32 - j) = (s.lat.arg1.extractLsb' 0 16 ++ s.lat.arg0).getLsbD (48 - k)

/-- PERM (R61) and UNPERM (R62) by the list of P (R42): FIPS bit k of P(s) is FIPS bit P[k] of s, and UNPERM moves the bits
back; RES1 is 0. -/
def Obligations.PermAndUnpermMoveTheBits : Prop :=
  (∀ s : State, ∃ t, exec .perm s = .next t ∧
    t = { s with res0 := t.res0, res1 := 0, phase := .idle, status := { s.status with busy := false } } ∧
    ∀ k, k < 32 → t.res0.getLsbD (31 - k) = s.lat.arg0.getLsbD (32 - pFips.getD k 0)) ∧
  (∀ s : State, ∃ t, exec .unperm s = .next t ∧
    t = { s with res0 := t.res0, res1 := 0, phase := .idle, status := { s.status with busy := false } } ∧
    ∀ k, k < 32 → t.res0.getLsbD (32 - pFips.getD k 0) = s.lat.arg0.getLsbD (31 - k))

/-- TBLRD (R63): for an index in range, the entry of E, E⁻¹, P or P⁻¹ in the 1-based FIPS form, these being told by the closed
form of E (R40), first occurrence (R41), the list of P (R42) and inverse (R43). -/
def Obligations.TblrdReadsTheTables : Prop :=
  ∀ (s : State) (t : BitVec 3), t.toNat ≤ 3 → s.lat.arg0.toNat < (if t = 0 then 48 else 32) →
    ∃ u, exec (.tblrd t) s = .next u ∧
      u = { s with res0 := u.res0, res1 := 0, phase := .idle, status := { s.status with busy := false } } ∧
      (t = 0 → u.res0.toNat = eFips (s.lat.arg0.toNat + 1)) ∧
      (t = 1 → FirstInE (s.lat.arg0.toNat + 1) u.res0.toNat) ∧
      (t = 2 → u.res0.toNat = pFips.getD s.lat.arg0.toNat 0) ∧
      (t = 3 → 1 ≤ u.res0.toNat ∧ pFips.getD (u.res0.toNat - 1) 0 = s.lat.arg0.toNat + 1)

/-- The model's choice (log 7): TBLRD stops where no table has the entry, which no accepted command asks for (R49, R51). -/
def Obligations.TblrdStopsWithoutAnEntry : Prop :=
  ∀ (s : State) (t : BitVec 3), 4 ≤ t.toNat ∨ (if t = 0 then 48 else 32) ≤ s.lat.arg0.toNat →
    exec (.tblrd t) s = .fault .noTableEntry

/-- R43: entry by entry ROM_PINV[ROM_P[k]] = k, and P⁻¹(P(s)) = s and P(P⁻¹(y)) = y for all 32-bit values, which the spec marks as
derived from R42 and that definition. -/
def Obligations.PermutationsUndoEachOther : Prop :=
  (∀ s : Word, unpermute (permute s) = s) ∧ (∀ y : Word, permute (unpermute y) = y) ∧
  (∀ k, 1 ≤ k → k ≤ 32 → ∃ v w, entry romP k = some v ∧ entry romPinv v.toNat = some w ∧ w.toNat = k)

/-- R41: E⁻¹(E(x)) = x for every x. -/
def Obligations.UnexpandUndoesExpand : Prop := ∀ x : Word, unexpand (expand x) = x

/-- R9, R81: a 48-bit value is consistent exactly when it is E(x) for some x; that x is unique and equals E⁻¹ of it. -/
def Obligations.ConsistentValuesAreExpansions : Prop :=
  ∀ w : Wide, (consistent w = true ↔ ∃ x, expand x = w) ∧ ∀ x, expand x = w → x = unexpand w

/-- R60: UNEXPAND never reads the sixteen second copies, bits 0, 1, 4, 5, 10, 11, …, 40, 41 of W48. -/
def Obligations.UnexpandIgnoresSecondCopies : Prop :=
  ∀ v w : Wide,
    (∀ b, b < 48 → b ∉ [0, 1, 4, 5, 10, 11, 16, 17, 22, 23, 28, 29, 34, 35, 40, 41] → v.getLsbD b = w.getLsbD b) →
    unexpand v = unexpand w

/-! ### The S-box array -/

/-- SUBST (R64, R65): nibble i of RES0 is S-box i of group i of W48; RES1 is 0. -/
def Obligations.SubstWorksInEightLanes : Prop :=
  ∀ s : State, ∃ t, exec .subst s = .next t ∧
    t = { s with res0 := t.res0, res1 := 0, phase := .idle, status := { s.status with busy := false } } ∧
    ∀ i, i < 8 → nib t.res0 i = sbox i (group (s.lat.arg1.extractLsb' 0 16 ++ s.lat.arg0) i)

/-- SBOX i (R66): the entry of S-box i at row 2·g[5] + g[0] and column g[4:1], for g = lat.arg0[5:0]; the higher bits of RES0
are 0, and RES1 is 0. -/
def Obligations.SboxReadsItsEntry : Prop :=
  ∀ (s : State) (i : BitVec 3), ∃ t, exec (.sbox i) s = .next t ∧
    t = { s with res0 := t.res0, res1 := 0, phase := .idle, status := { s.status with busy := false } } ∧
    let g := s.lat.arg0.toNat % 64
    t.res0.toNat = (((rom.sbox.getD i.toNat []).getD (2 * (g / 32) + g % 2) []).getD (g / 2 % 16) 0).toNat

/-- SBOXINV i (R67): RES0 holds the four preimages of the nibble n = lat.arg0[3:0], ascending from bit 0, the count 4 in bits
26..24 and zeros above; they are all the inputs that S-box i maps to n. -/
def Obligations.SboxinvPacksThePreimages : Prop :=
  ∀ (s : State) (i : BitVec 3), ∃ t, exec (.sboxinv i) s = .next t ∧
    t = { s with res0 := t.res0, res1 := 0, phase := .idle, status := { s.status with busy := false } } ∧
    t.res0.extractLsb' 24 8 = 4 ∧
    (t.res0.extractLsb' 0 6).toNat < (t.res0.extractLsb' 6 6).toNat ∧
    (t.res0.extractLsb' 6 6).toNat < (t.res0.extractLsb' 12 6).toNat ∧
    (t.res0.extractLsb' 12 6).toNat < (t.res0.extractLsb' 18 6).toNat ∧
    ∀ g : Group, sbox i.toNat g = s.lat.arg0.extractLsb' 0 4 ↔
      (g = t.res0.extractLsb' 0 6 ∨ g = t.res0.extractLsb' 6 6 ∨ g = t.res0.extractLsb' 12 6 ∨
        g = t.res0.extractLsb' 18 6)

/-! ### The round function -/

/-- ROUND (R69): RES0 is round_K(x), so that nibble i of P⁻¹(RES0) is S-box i of group i of E(x) XOR K (R71); RES1 is 0. -/
def Obligations.RoundComputesTheRoundFunction : Prop :=
  ∀ s : State, ∃ t, exec .round s = .next t ∧
    t = { s with res0 := t.res0, res1 := 0, phase := .idle, status := { s.status with busy := false } } ∧
    t.res0 = permute (subst (expand s.lat.arg0 ^^^ s.lat.key)) ∧
    ∀ i, i < 8 → nib (unpermute t.res0) i = sbox i (group (expand s.lat.arg0 ^^^ s.lat.key) i)

/-- R69: complementing the half-block and the subkey together leaves the round function's value. -/
def Obligations.RoundComplementLaw : Prop :=
  ∀ (k : Wide) (x : Word), roundK (k ^^^ 0xFFFFFFFFFFFF) (x ^^^ 0xFFFFFFFF) = roundK k x

/-- VERIFY (R70): RES0 is 1 when round_K(x) equals all 32 bits of the target, else 0; no STATUS flag changes. -/
def Obligations.VerifyComparesTheRound : Prop :=
  ∀ s : State, exec .verify s =
    .next { s with res0 := if roundK s.lat.key s.lat.arg0 = s.lat.arg1 then 0x00000001 else 0x00000000, res1 := 0,
                   phase := .idle, status := { s.status with busy := false } }

/-! ### The search unit -/

/-- ADJCHK (R83): bit i of RES0 says whether the two low bits of group i of W48 equal the two high bits of group i + 1 mod 8;
the bits above are 0; RES0 = 0xFF exactly when W48 is E of some half-block. -/
def Obligations.AdjchkReportsTheAdjacencies : Prop :=
  ∀ s : State, ∃ t, exec .adjchk s = .next t ∧
    t = { s with res0 := t.res0, res1 := 0, phase := .idle, status := { s.status with busy := false } } ∧
    let w : Wide := s.lat.arg1.extractLsb' 0 16 ++ s.lat.arg0
    (∀ i, i < 8 → (t.res0.getLsbD i = true ↔
      (group w i).extractLsb' 0 2 = (group w ((i + 1) % 8)).extractLsb' 4 2)) ∧
    (∀ i, 8 ≤ i → t.res0.getLsbD i = false) ∧
    (t.res0 = 0x000000FF ↔ ∃ x, expand x = w)

/-- R75: the backtracking search emits exactly the tuples of the full product C_0 × … × C_7 whose eight adjacencies hold. -/
def Obligations.BacktrackingFindsTheConsistentTuples : Prop :=
  ∀ (y : Word) (k : Wide) (gs : List Group),
    gs.reverse ∈ tuplesBelow ((List.range 8).map (candidateSet y k)) [] ↔
      gs.length = 8 ∧ (∀ i, i < 8 → gs.getD i 0 ∈ candidateSet y k i) ∧ ∀ i, i < 8 → adj (assemble gs) i = true

/-- R27, R55, R75: an internal search step changes the search state alone, and the completion of INVERT is the same whether or not
it took place. -/
def Obligations.SearchStepsAreUnobservable : Prop :=
  (∀ (y : Word) (k : Wide) (σ : Search), (σ.next y k).finish y k = σ.finish y k) ∧
  (∀ (s : State) (rest : List Event), s.agenda = .searchStep :: rest →
    ∃ σ, step s = .next { s with agenda := rest, search := σ } ∧ (s.phase ≠ .run .invert → σ = s.search) ∧
      exec .invert { s with agenda := rest, search := σ } = exec .invert { s with agenda := rest })

/-- INVERT (R72, R80, R84), for the search of the latched target and subkey wherever it stands: there is an ascending list L of
exactly the half-blocks whose round output is the target, and CAND, CNT, RES0 and RES1 hold it, its first sixteen at most; STATUS
records OVERFLOW if there are more (R79) and no soundness violation (R81, which the spec marks as derived); nothing else changes. -/
def Obligations.InvertReturnsThePreimages : Prop :=
  ∀ s : State, s.search.Toward s.lat.arg0 s.lat.key →
    ∃ (t : State) (L : List Word), exec .invert s = .next t ∧
      (L.Pairwise fun a b => a.toNat < b.toNat) ∧ (∀ x, x ∈ L ↔ roundK s.lat.key x = s.lat.arg0) ∧
      (∀ j : Fin 16, t.cand[j] = L.getD j.val 0) ∧
      t.cnt.toNat = min L.length 16 ∧ t.res0.toNat = min L.length 16 ∧ t.res1 = 0 ∧
      t.status = (if 16 < L.length
        then { s.status with busy := false, ovf := true, err := true, errCode := .overflow }
        else { s.status with busy := false }) ∧
      t = { s with search := t.search, cand := t.cand, cnt := t.cnt, res0 := t.res0, res1 := t.res1,
                   status := t.status, phase := .idle }

/-- R82: CNT = 0 exactly when the target has no preimage, and that is a normal outcome: RES0 and every CAND[j] are 0, no error
code is recorded and no STATUS bit is set. -/
def Obligations.EmptyInversionIsNoError : Prop :=
  ∀ s : State, s.search.Toward s.lat.arg0 s.lat.key →
    ∃ t, exec .invert s = .next t ∧ (t.cnt = 0 ↔ ∀ x, roundK s.lat.key x ≠ s.lat.arg0) ∧
      (t.cnt = 0 → t.res0 = 0 ∧ (∀ j : Fin 16, t.cand[j] = 0) ∧ t.status = { s.status with busy := false })

/-- R78, R79, R93: what INVERT records for any finished search: SOUND if a violation occurred, OVF if more than sixteen candidates
were found, the code OVERFLOW before SOUNDNESS, and no code if neither. -/
def Obligations.InvertRecordsSearchDefects : Prop :=
  ∀ s : State, let σ := s.search.finish s.lat.arg0 s.lat.key
    ∃ t, exec .invert s = .next t ∧
      (t.status.sound = true ↔ s.status.sound = true ∨ σ.violated = true) ∧
      (t.status.ovf = true ↔ s.status.ovf = true ∨ 16 < σ.found.length) ∧
      (16 < σ.found.length → t.status.err = true ∧ t.status.errCode = .overflow) ∧
      (σ.found.length ≤ 16 → σ.violated = true → t.status.err = true ∧ t.status.errCode = .soundness) ∧
      (σ.found.length ≤ 16 → σ.violated = false → t.status.err = s.status.err ∧ t.status.errCode = s.status.errCode) ∧
      t.status.busy = false ∧ t.status.cfgOk = s.status.cfgOk ∧ t.status.cfgFault = s.status.cfgFault

/-- R79, R81 (marked as derived by the spec): with the ROM tables no target has more than sixteen preimages, whatever the subkey,
counted by any duplicate-free list of half-blocks whose round output is the target; so INVERT's finished search holds sixteen candidates
at most and the candidate buffer never overflows. -/
def Obligations.AtMostSixteenPreimages : Prop :=
  (∀ (y : Word) (k : Wide) (L : List Word), L.Nodup → (∀ x ∈ L, roundK k x = y) → L.length ≤ 16) ∧
  (∀ (y : Word) (k : Wide), ((Search.start y k).finish y k).found.length ≤ 16)

/-! ### The control commands -/

/-- NOP (R85): completes, and writes no register. -/
def Obligations.NopOnlyCompletes : Prop :=
  ∀ s : State, exec .nop s = .next { s with phase := .idle, status := { s.status with busy := false } }

/-- SELFTEST (R87): with the ROM tables it passes; CFG_OK becomes 1, CFG_FAULT 0, and every other register and flag stays. -/
def Obligations.SelftestPassesOnTheRom : Prop :=
  ∀ s : State, exec .selftest s =
    .next { s with phase := .idle, status := { s.status with cfgOk := true, cfgFault := false, busy := false } }

/-- R86: for any ROM contents of the right sizes, check (a) means that P and P⁻¹ undo each other on all values, and check (b)
that E⁻¹ undoes E. -/
def Obligations.TableChecksMeanInverses : Prop :=
  ∀ r : Rom, r.e.length = 48 → r.einv.length = 32 → r.p.length = 32 → r.pinv.length = 32 →
    (permutationsOk r = true →
      ∀ v : Word, sel 32 r.pinv (sel 32 r.p v) = v ∧ sel 32 r.p (sel 32 r.pinv v) = v) ∧
    (expansionOk r = true → ∀ x : Word, sel 32 r.einv (sel 48 r.e x) = x)

/-! ### STATUS, the register window and reset -/

/-- R14: a write of v to STATUS clears ERR with ERRCODE, SOUND and OVF where bits 3, 4 and 5 of v are 1 and changes nothing else,
whether BUSY is 1 or not; and what a completion records in the same event wins over the clearing, the code with ERR and the bits SOUND
and OVF alike (R90), also where both conditions of R93 hold. -/
def Obligations.StatusWriteClearsStickyBits : Prop :=
  (∀ (s : State) (v : Word) (rest : List Event), s.agenda = .write (0x100 * s.page + 0x04) 4 v :: rest →
    ∃ t, step s = .next t ∧ t = { s with agenda := rest, status := t.status } ∧
      (v.getLsbD 3 = true → t.status.err = false ∧ t.status.errCode = .none) ∧
      (v.getLsbD 3 = false → t.status.err = s.status.err ∧ t.status.errCode = s.status.errCode) ∧
      (v.getLsbD 4 = true → t.status.sound = false) ∧ (v.getLsbD 4 = false → t.status.sound = s.status.sound) ∧
      (v.getLsbD 5 = true → t.status.ovf = false) ∧ (v.getLsbD 5 = false → t.status.ovf = s.status.ovf) ∧
      t.status.busy = s.status.busy ∧ t.status.cfgOk = s.status.cfgOk ∧ t.status.cfgFault = s.status.cfgFault) ∧
  (∀ (s : State) (v : Word) (rest : List Event), s.agenda = .clearAtCompletion v :: rest → s.phase = .run .invert →
    let σ := s.search.finish s.lat.arg0 s.lat.key
    ∃ t, step s = .next t ∧
      (16 < σ.found.length → t.status.ovf = true ∧ t.status.err = true ∧ t.status.errCode = .overflow) ∧
      (σ.violated = true → t.status.sound = true ∧ t.status.err = true) ∧
      (σ.found.length ≤ 16 → σ.violated = true → t.status.errCode = .soundness))

/-- R33: what a write to each register of the window does. -/
def Obligations.HostWriteEffects : Prop :=
  ∀ (s : State) (k : Nat) (v : Word) (rest : List Event), k < 64 →
    s.agenda = .write (0x100 * s.page + 4 * k) 4 v :: rest →
    (k = 0 → step s = .next (State.cmdWrite v { s with agenda := rest })) ∧
    (k = 1 → step s = .next { s with agenda := rest, status := s.status.clear v }) ∧
    (k = 2 → step s = .next { s with agenda := rest, arg0 := v }) ∧
    (k = 3 → step s = .next { s with agenda := rest, arg1 := v }) ∧
    (k = 4 → step s = .next { s with agenda := rest, key0 := v }) ∧
    (k = 5 → step s = .next { s with agenda := rest, key1 := v.extractLsb' 0 16 }) ∧
    (6 ≤ k → step s = .next { s with agenda := rest })

/-- R32: a read has no side effect on CORE; CMD and the reserved offsets read 0, and every other register reads its current value
(the result registers while BUSY = 0). -/
def Obligations.ReadsReturnTheRegisters : Prop :=
  ∀ (s : State) (k : Nat) (rest : List Event), k < 64 → s.agenda = .read (0x100 * s.page + 4 * k) 4 :: rest →
    ∃ t, step s = .next t ∧ t = { s with agenda := rest, rdata := t.rdata, draws := t.draws } ∧
      (k = 0 ∨ (9 ≤ k ∧ k < 16) ∨ 32 ≤ k → t.rdata = 0) ∧
      (k = 1 → t.rdata = s.status.word) ∧ (k = 2 → t.rdata = s.arg0) ∧ (k = 3 → t.rdata = s.arg1) ∧
      (k = 4 → t.rdata = s.key0) ∧ (k = 5 → t.rdata = s.key1.setWidth 32) ∧
      (s.status.busy = false →
        (k = 6 → t.rdata = s.res0) ∧ (k = 7 → t.rdata = s.res1.setWidth 32) ∧ (k = 8 → t.rdata = s.cnt.setWidth 32) ∧
        (∀ j : Fin 16, k = 16 + j.val → t.rdata = s.cand[j]))

/-- R13, R89: the fields of STATUS stand at their bits, every reserved bit reads 0, and ERRCODE reads as the code R89 gives each
error. -/
def Obligations.StatusBitsReadAsLaidOut : Prop :=
  (∀ t : Status, t.word.getLsbD 0 = t.busy ∧ t.word.getLsbD 1 = t.cfgOk ∧ t.word.getLsbD 2 = t.cfgFault ∧
    t.word.getLsbD 3 = t.err ∧ t.word.getLsbD 4 = t.sound ∧ t.word.getLsbD 5 = t.ovf ∧
    t.word.getLsbD 6 = false ∧ t.word.getLsbD 7 = false ∧ ∀ b, 16 ≤ b → t.word.getLsbD b = false) ∧
  (∀ t : Status, t.word.extractLsb' 8 8 = t.errCode.byte) ∧
  ErrCode.none.byte = 0x00 ∧ ErrCode.illegalCmd.byte = 0x01 ∧ ErrCode.busyReject.byte = 0x02 ∧
  ErrCode.badOperand.byte = 0x03 ∧ ErrCode.cfgReject.byte = 0x04 ∧ ErrCode.soundness.byte = 0x05 ∧
  ErrCode.overflow.byte = 0x06 ∧ ErrCode.configDefect.byte = 0x07

/-- R21: the reserved offsets 0x24..0x3C and 0x80..0xFC read 0 and ignore writes; the reserved bits of STATUS, KEY1, RES1 and CNT
read 0. -/
def Obligations.ReservedOffsetsAndBitsReadZero : Prop :=
  (∀ (s : State) (o : Nat) (rest : List Event), o % 4 = 0 → (0x24 ≤ o ∧ o ≤ 0x3C) ∨ (0x80 ≤ o ∧ o ≤ 0xFC) →
    (s.agenda = .read (0x100 * s.page + o) 4 :: rest → step s = .next { s with agenda := rest, rdata := 0 }) ∧
    (∀ v, s.agenda = .write (0x100 * s.page + o) 4 v :: rest → step s = .next { s with agenda := rest })) ∧
  (∀ (s : State) (b : Nat), 16 ≤ b → (s.regValue .status).getLsbD b = false ∧ (s.regValue .key1).getLsbD b = false ∧
    (s.regValue .res1).getLsbD b = false ∧ (s.regValue .cnt).getLsbD b = false) ∧
  (∀ s : State, (s.regValue .status).extractLsb' 6 2 = 0 ∧ ∀ b, 5 ≤ b → (s.regValue .cnt).getLsbD b = false)

/-- R105 in the model's form (log 3): a read of RES0, RES1, CNT or CAND[j] while BUSY = 1 returns the next free value and changes
nothing else; the value may be any. -/
def Obligations.BusyResultReadsAreFree : Prop :=
  ∀ (s : State) (k : Nat) (rest : List Event), s.status.busy = true → (6 ≤ k ∧ k ≤ 8) ∨ (16 ≤ k ∧ k < 32) →
    s.agenda = .read (0x100 * s.page + 4 * k) 4 :: rest →
    step s = .next { s with agenda := rest, rdata := Config.freeWord s.draws, draws := s.draws + 1 }

/-- R30: a window access of a width other than 32 bits or at an offset that is no multiple of 4 is the fault BadAccess. -/
def Obligations.OtherAccessesAreBad : Prop :=
  ∀ (s : State) (o n : Nat) (rest : List Event), o < 0x100 → n ≠ 4 ∨ o % 4 ≠ 0 →
    (s.agenda = .read (0x100 * s.page + o) n :: rest → step s = .fault .badAccess) ∧
    (∀ v, s.agenda = .write (0x100 * s.page + o) n v :: rest → step s = .fault .badAccess)

/-- The model's choice (log 6): an access outside the window stops the run. -/
def Obligations.AccessOutsideTheWindowStops : Prop :=
  ∀ (s : State) (a n : Nat) (rest : List Event), a < 0x100 * s.page ∨ 0x100 * s.page + 0x100 ≤ a →
    (s.agenda = .read a n :: rest → step s = .fault .outsideWindow) ∧
    (∀ v, s.agenda = .write a n v :: rest → step s = .fault .outsideWindow)

/-- R100, R102: reset sets every piece of CORE's state, whatever ran before, and a running command is aborted. -/
def Obligations.ResetSetsEveryRegister : Prop :=
  ∀ (s : State) (rest : List Event), s.agenda = .reset :: rest →
    ∃ t, step s = .next t ∧ t.status.word = 0x00000001 ∧ t.arg0 = 0 ∧ t.arg1 = 0 ∧ t.key0 = 0 ∧ t.key1 = 0 ∧
      t.res0 = 0 ∧ t.res1 = 0 ∧ t.cnt = 0 ∧ (∀ j : Fin 16, t.cand[j] = 0) ∧ t.phase = .selftestReset ∧
      t.lat = { op := 0, sel := 0, arg0 := 0, arg1 := 0, key := 0 } ∧ t.search = .empty

/-- R101: the reset self-test's completion; with the ROM tables it passes, as the spec derives from R86; a verdict that fails sets
CFG_FAULT and records CONFIG_DEFECT. Clause 2, that the first step from State.reset is that completion and leaves STATUS = 0x00000002,
rests on the model's choice that a busy engine with no event to come completes (log 1). -/
def Obligations.ResetSelfTestCompletes : Prop :=
  (∀ (s : State) (rest : List Event), s.phase = .selftestReset → s.agenda = .complete :: rest →
    step s = .next { s with agenda := rest, phase := .idle,
                            status := { s.status with cfgOk := true, cfgFault := false, busy := false } }) ∧
  (∃ t, step State.reset = .next t ∧ t.status.word = 0x00000002 ∧ t.phase = .idle) ∧
  (∀ s : State, s.selfTestDone false =
    { s with phase := .idle, status := { s.status with cfgOk := false, cfgFault := true, err := true,
                                                       errCode := .configDefect, busy := false } })

/-! ### Rules of the whole machine -/

/-- R26, R106: writes to ARG0, ARG1, KEY0 and KEY1 after the issue have no effect on the running command: its completion step gives
the same results, and the registers keep what was written. -/
def Obligations.OperandWritesMissTheRunningCommand : Prop :=
  ∀ (i : Instr) (s : State) (a0 a1 k0 : Word) (k1 : BitVec 16),
    exec i { s with arg0 := a0, arg1 := a1, key0 := k0, key1 := k1 } =
      match exec i s with
      | .next t => .next { t with arg0 := a0, arg1 := a1, key0 := k0, key1 := k1 }
      | .fault f => .fault f
      | .refused r => .refused r

/-- R25, R91: while the engine runs, no event but a completion or a reset ends its phase, changes its latched operands or a result
register, or lowers BUSY. -/
def Obligations.OnlyCompletionOrResetEndsARun : Prop :=
  ∀ (s t : State) (e : Event) (rest : List Event), s.agenda = e :: rest → s.phase ≠ .idle → s.status.busy = true →
    e ≠ .complete → (∀ v, e ≠ .clearAtCompletion v) → e ≠ .reset → step s = .next t →
    t.phase = s.phase ∧ t.lat = s.lat ∧ t.status.busy = true ∧ t.res0 = s.res0 ∧ t.res1 = s.res1 ∧ t.cnt = s.cnt ∧
      t.cand = s.cand

/-- R19, R20, R109: CNT and CAND change only at the completion of an INVERT or at a reset; RES0 and RES1 only at a completion
or a reset. -/
def Obligations.ResultsChangeOnlyAtCompletions : Prop :=
  ∀ s t : State, step s = .next t →
    (t.cnt ≠ s.cnt ∨ t.cand ≠ s.cand → (s.phase = .run .invert ∧ t.phase = .idle) ∨
      ∃ rest, s.agenda = .reset :: rest) ∧
    (t.res0 ≠ s.res0 ∨ t.res1 ≠ s.res1 → (∃ i, s.phase = .run i ∧ i ≠ .nop ∧ i ≠ .selftest ∧ t.phase = .idle) ∨
      ∃ rest, s.agenda = .reset :: rest)

/-- R13, R19, R20, R25, R54, R89: the invariant holds right after reset. -/
def Obligations.ResetMeetsTheInvariant : Prop := State.reset.Inv

/-- The invariant is kept by every step, whatever event comes next. -/
def Obligations.StepKeepsTheInvariant : Prop := ∀ s t : State, s.Inv → step s = .next t → t.Inv

/-- R81, R86: right after reset no defect is recorded. -/
def Obligations.ResetHasNoDefect : Prop := State.reset.NoDefect

/-- R81, R86, section 5 of 95_test_vectors.md: with the ROM tables no step records a soundness violation or a configuration
defect. -/
def Obligations.StepKeepsNoDefect : Prop := ∀ s t : State, s.NoDefect → step s = .next t → t.NoDefect

/-- R108 in the model's form: a busy engine with no event to come completes in the next step, answering an idle state with BUSY = 0,
and never stops. That it is the next step is the model's choice of how weak fairness is held (log 1). -/
def Obligations.BusyEngineCompletes : Prop :=
  ∀ s : State, s.Inv → s.phase ≠ .idle → s.agenda = [] →
    ∃ t, step s = .next t ∧ t.phase = .idle ∧ t.status.busy = false

/-- R35: a program that writes its operands, writes CMD, reads STATUS until BUSY = 0 and then reads the results sees exactly the
results of that command: here ROUND with a subkey, for every number of polls and every base address. -/
def Obligations.PolledKeyedRoundReadsItsResult : Prop :=
  ∀ (s : State) (k : Wide) (x : Word) (polls : Nat) (rest : List Event), s.status.busy = false →
    s.status.cfgFault = false → s.agenda = setKey s.page k ++ (roundLines s.page polls x ++ rest) →
    ∃ t : State, Host.Core.run Sys2Proof.core (7 + polls) s = .next t ∧ t.agenda = rest ∧ t.status.busy = false ∧
      t.rdata = roundK k x

/-- R35, R72, R80: so does a program that inverts a target: after INVERT and any number of polls, a read of CNT returns the number
of the target's preimages, sixteen at most. -/
def Obligations.PolledInvertReadsTheCount : Prop :=
  ∀ (s : State) (y : Word) (polls : Nat) (rest : List Event), s.status.busy = false → s.status.cfgFault = false →
    s.agenda = invertLines s.page polls y 0 ++ rest →
    ∃ (t : State) (L : List Word), Host.Core.run Sys2Proof.core (5 + polls) s = .next t ∧ t.agenda = rest ∧
      (L.Pairwise fun a b => a.toNat < b.toNat) ∧
      (∀ x, x ∈ L ↔ roundK (s.key1 ++ s.key0) x = y) ∧ t.rdata.toNat = min L.length 16
end

