-- ==== Sys2Proof/Laws/Bits.lean ====
section
/-! SUPPORT. Bit by bit, what selection by a table and the group and nibble fields read (R4 to R9). -/

namespace Sys2Proof.Machine

/-- Bit j of sel_T(v) is the input bit that T's entry m − 1 − j names (R4). -/
theorem getLsbD_sel {w m : Nat} {T : List (BitVec 6)} (v : BitVec w) (hT : T.length = m) {j : Nat} (hj : j < m) :
    (sel m T v).getLsbD j = v.getLsbD (w - (T.getD (m - 1 - j) 0).toNat) := by
  subst hT
  have hlen : (T.map fun t => v.getLsbD (w - t.toNat)).length = T.length := by simp
  have hmsb := BitVec.getMsbD_ofBoolListBE (bs := T.map fun t => v.getLsbD (w - t.toNat)) (i := T.length - 1 - j)
  rw [BitVec.getMsbD_eq_getLsbD] at hmsb
  have hk : (T.map fun t => v.getLsbD (w - t.toNat)).length - 1 - (T.length - 1 - j) = j := by rw [hlen]; omega
  rw [hk] at hmsb
  have hlt : T.length - 1 - j < (T.map fun t => v.getLsbD (w - t.toNat)).length := by rw [hlen]; omega
  have hlt' : T.length - 1 - j < T.length := by omega
  simp only [hlt, decide_true, Bool.true_and] at hmsb
  rw [sel, BitVec.getLsbD_setWidth, hmsb, List.getD_eq_getElem _ _ hlt, List.getD_eq_getElem _ _ hlt']
  simp [hj]

@[simp] theorem rom_e_length : rom.e.length = 48 := by decide
@[simp] theorem rom_einv_length : rom.einv.length = 32 := by decide
@[simp] theorem rom_p_length : rom.p.length = 32 := by decide
@[simp] theorem rom_pinv_length : rom.pinv.length = 32 := by decide

theorem getLsbD_expand (x : Word) {j : Nat} (hj : j < 48) :
    (expand x).getLsbD j = x.getLsbD (32 - (rom.e.getD (47 - j) 0).toNat) := getLsbD_sel x rom_e_length hj

theorem getLsbD_unexpand (w : Wide) {j : Nat} (hj : j < 32) :
    (unexpand w).getLsbD j = w.getLsbD (48 - (rom.einv.getD (31 - j) 0).toNat) := getLsbD_sel w rom_einv_length hj

theorem getLsbD_permute (s : Word) {j : Nat} (hj : j < 32) :
    (permute s).getLsbD j = s.getLsbD (32 - (rom.p.getD (31 - j) 0).toNat) := getLsbD_sel s rom_p_length hj

theorem getLsbD_unpermute (y : Word) {j : Nat} (hj : j < 32) :
    (unpermute y).getLsbD j = y.getLsbD (32 - (rom.pinv.getD (31 - j) 0).toNat) := getLsbD_sel y rom_pinv_length hj

theorem getLsbD_group (w : Wide) (i : Nat) {b : Nat} (hb : b < 6) :
    (group w i).getLsbD b = w.getLsbD (6 * (7 - i) + b) := by simp [group, hb]

theorem getLsbD_nib (s : Word) (i : Nat) {b : Nat} (hb : b < 4) :
    (nib s i).getLsbD b = s.getLsbD (4 * (7 - i) + b) := by simp [nib, hb]

theorem group_xor (v w : Wide) (i : Nat) : group (v ^^^ w) i = group v i ^^^ group w i := by
  ext b hb; simp [group]

/-- Row and column are read back from the input they name (R8). -/
theorem row_inputAt (r : BitVec 2) (c : BitVec 4) : row (inputAt r c) = r := by revert r c; decide

theorem col_inputAt (r : BitVec 2) (c : BitVec 4) : col (inputAt r c) = c := by revert r c; decide

theorem adj_iff (w : Wide) (i : Nat) : adj w i = true ↔ lo2 (group w i) = hi2 (group w ((i + 1) % 8)) := by
  simp [adj]

theorem consistent_iff (w : Wide) : consistent w = true ↔ ∀ i < 8, adj w i = true := by
  simp [consistent]

end Sys2Proof.Machine
end

