-- ==== Sys2Proof/Laws/State.lean ====
section
/-! SUPPORT. One lemma per field per update of the machine's records, each true by rfl, so that no later proof unfolds a record
update. -/

namespace Sys2Proof.Machine

/-! ### STATUS -/

@[simp] theorem Status.record_busy (e : ErrCode) (t : Status) : (t.record e).busy = t.busy := rfl
@[simp] theorem Status.record_cfgOk (e : ErrCode) (t : Status) : (t.record e).cfgOk = t.cfgOk := rfl
@[simp] theorem Status.record_cfgFault (e : ErrCode) (t : Status) : (t.record e).cfgFault = t.cfgFault := rfl
@[simp] theorem Status.record_err (e : ErrCode) (t : Status) : (t.record e).err = true := rfl
@[simp] theorem Status.record_sound (e : ErrCode) (t : Status) : (t.record e).sound = t.sound := rfl
@[simp] theorem Status.record_ovf (e : ErrCode) (t : Status) : (t.record e).ovf = t.ovf := rfl
@[simp] theorem Status.record_errCode (e : ErrCode) (t : Status) : (t.record e).errCode = e := rfl

@[simp] theorem Status.clear_busy (v : Word) (t : Status) : (t.clear v).busy = t.busy := rfl
@[simp] theorem Status.clear_cfgOk (v : Word) (t : Status) : (t.clear v).cfgOk = t.cfgOk := rfl
@[simp] theorem Status.clear_cfgFault (v : Word) (t : Status) : (t.clear v).cfgFault = t.cfgFault := rfl
@[simp] theorem Status.clear_err (v : Word) (t : Status) : (t.clear v).err = (t.err && !v.getLsbD 3) := rfl
@[simp] theorem Status.clear_sound (v : Word) (t : Status) : (t.clear v).sound = (t.sound && !v.getLsbD 4) := rfl
@[simp] theorem Status.clear_ovf (v : Word) (t : Status) : (t.clear v).ovf = (t.ovf && !v.getLsbD 5) := rfl
@[simp] theorem Status.clear_errCode (v : Word) (t : Status) : (t.clear v).errCode = (if v.getLsbD 3 then .none else t.errCode) := rfl

@[simp] theorem Status.release_busy (t : Status) : (t.release).busy = false := rfl
@[simp] theorem Status.release_cfgOk (t : Status) : (t.release).cfgOk = t.cfgOk := rfl
@[simp] theorem Status.release_cfgFault (t : Status) : (t.release).cfgFault = t.cfgFault := rfl
@[simp] theorem Status.release_err (t : Status) : (t.release).err = t.err := rfl
@[simp] theorem Status.release_sound (t : Status) : (t.release).sound = t.sound := rfl
@[simp] theorem Status.release_ovf (t : Status) : (t.release).ovf = t.ovf := rfl
@[simp] theorem Status.release_errCode (t : Status) : (t.release).errCode = t.errCode := rfl

@[simp] theorem Status.take_busy (t : Status) : (t.take).busy = true := rfl
@[simp] theorem Status.take_cfgOk (t : Status) : (t.take).cfgOk = t.cfgOk := rfl
@[simp] theorem Status.take_cfgFault (t : Status) : (t.take).cfgFault = t.cfgFault := rfl
@[simp] theorem Status.take_err (t : Status) : (t.take).err = t.err := rfl
@[simp] theorem Status.take_sound (t : Status) : (t.take).sound = t.sound := rfl
@[simp] theorem Status.take_ovf (t : Status) : (t.take).ovf = t.ovf := rfl
@[simp] theorem Status.take_errCode (t : Status) : (t.take).errCode = t.errCode := rfl

/-! ### The state -/

@[simp] theorem State.completed_status (s : State) : (s.completed).status = s.status.release := rfl
@[simp] theorem State.completed_arg0 (s : State) : (s.completed).arg0 = s.arg0 := rfl
@[simp] theorem State.completed_arg1 (s : State) : (s.completed).arg1 = s.arg1 := rfl
@[simp] theorem State.completed_key0 (s : State) : (s.completed).key0 = s.key0 := rfl
@[simp] theorem State.completed_key1 (s : State) : (s.completed).key1 = s.key1 := rfl
@[simp] theorem State.completed_res0 (s : State) : (s.completed).res0 = s.res0 := rfl
@[simp] theorem State.completed_res1 (s : State) : (s.completed).res1 = s.res1 := rfl
@[simp] theorem State.completed_cnt (s : State) : (s.completed).cnt = s.cnt := rfl
@[simp] theorem State.completed_cand (s : State) : (s.completed).cand = s.cand := rfl
@[simp] theorem State.completed_phase (s : State) : (s.completed).phase = .idle := rfl
@[simp] theorem State.completed_lat (s : State) : (s.completed).lat = s.lat := rfl
@[simp] theorem State.completed_search (s : State) : (s.completed).search = s.search := rfl
@[simp] theorem State.completed_agenda (s : State) : (s.completed).agenda = s.agenda := rfl
@[simp] theorem State.completed_rdata (s : State) : (s.completed).rdata = s.rdata := rfl
@[simp] theorem State.completed_draws (s : State) : (s.completed).draws = s.draws := rfl
@[simp] theorem State.completed_page (s : State) : (s.completed).page = s.page := rfl

@[simp] theorem State.writeWide_status (r : Wide) (s : State) : (s.writeWide r).status = s.status := rfl
@[simp] theorem State.writeWide_arg0 (r : Wide) (s : State) : (s.writeWide r).arg0 = s.arg0 := rfl
@[simp] theorem State.writeWide_arg1 (r : Wide) (s : State) : (s.writeWide r).arg1 = s.arg1 := rfl
@[simp] theorem State.writeWide_key0 (r : Wide) (s : State) : (s.writeWide r).key0 = s.key0 := rfl
@[simp] theorem State.writeWide_key1 (r : Wide) (s : State) : (s.writeWide r).key1 = s.key1 := rfl
@[simp] theorem State.writeWide_res0 (r : Wide) (s : State) : (s.writeWide r).res0 = r.extractLsb' 0 32 := rfl
@[simp] theorem State.writeWide_res1 (r : Wide) (s : State) : (s.writeWide r).res1 = r.extractLsb' 32 16 := rfl
@[simp] theorem State.writeWide_cnt (r : Wide) (s : State) : (s.writeWide r).cnt = s.cnt := rfl
@[simp] theorem State.writeWide_cand (r : Wide) (s : State) : (s.writeWide r).cand = s.cand := rfl
@[simp] theorem State.writeWide_phase (r : Wide) (s : State) : (s.writeWide r).phase = s.phase := rfl
@[simp] theorem State.writeWide_lat (r : Wide) (s : State) : (s.writeWide r).lat = s.lat := rfl
@[simp] theorem State.writeWide_search (r : Wide) (s : State) : (s.writeWide r).search = s.search := rfl
@[simp] theorem State.writeWide_agenda (r : Wide) (s : State) : (s.writeWide r).agenda = s.agenda := rfl
@[simp] theorem State.writeWide_rdata (r : Wide) (s : State) : (s.writeWide r).rdata = s.rdata := rfl
@[simp] theorem State.writeWide_draws (r : Wide) (s : State) : (s.writeWide r).draws = s.draws := rfl
@[simp] theorem State.writeWide_page (r : Wide) (s : State) : (s.writeWide r).page = s.page := rfl

@[simp] theorem State.writeWord_status (r : Word) (s : State) : (s.writeWord r).status = s.status := rfl
@[simp] theorem State.writeWord_arg0 (r : Word) (s : State) : (s.writeWord r).arg0 = s.arg0 := rfl
@[simp] theorem State.writeWord_arg1 (r : Word) (s : State) : (s.writeWord r).arg1 = s.arg1 := rfl
@[simp] theorem State.writeWord_key0 (r : Word) (s : State) : (s.writeWord r).key0 = s.key0 := rfl
@[simp] theorem State.writeWord_key1 (r : Word) (s : State) : (s.writeWord r).key1 = s.key1 := rfl
@[simp] theorem State.writeWord_res0 (r : Word) (s : State) : (s.writeWord r).res0 = r := rfl
@[simp] theorem State.writeWord_res1 (r : Word) (s : State) : (s.writeWord r).res1 = 0 := rfl
@[simp] theorem State.writeWord_cnt (r : Word) (s : State) : (s.writeWord r).cnt = s.cnt := rfl
@[simp] theorem State.writeWord_cand (r : Word) (s : State) : (s.writeWord r).cand = s.cand := rfl
@[simp] theorem State.writeWord_phase (r : Word) (s : State) : (s.writeWord r).phase = s.phase := rfl
@[simp] theorem State.writeWord_lat (r : Word) (s : State) : (s.writeWord r).lat = s.lat := rfl
@[simp] theorem State.writeWord_search (r : Word) (s : State) : (s.writeWord r).search = s.search := rfl
@[simp] theorem State.writeWord_agenda (r : Word) (s : State) : (s.writeWord r).agenda = s.agenda := rfl
@[simp] theorem State.writeWord_rdata (r : Word) (s : State) : (s.writeWord r).rdata = s.rdata := rfl
@[simp] theorem State.writeWord_draws (r : Word) (s : State) : (s.writeWord r).draws = s.draws := rfl
@[simp] theorem State.writeWord_page (r : Word) (s : State) : (s.writeWord r).page = s.page := rfl

@[simp] theorem State.writeSearch_status (σ : Search) (s : State) : (s.writeSearch σ).status = s.status.searched σ.violated σ.overflows := rfl
@[simp] theorem State.writeSearch_arg0 (σ : Search) (s : State) : (s.writeSearch σ).arg0 = s.arg0 := rfl
@[simp] theorem State.writeSearch_arg1 (σ : Search) (s : State) : (s.writeSearch σ).arg1 = s.arg1 := rfl
@[simp] theorem State.writeSearch_key0 (σ : Search) (s : State) : (s.writeSearch σ).key0 = s.key0 := rfl
@[simp] theorem State.writeSearch_key1 (σ : Search) (s : State) : (s.writeSearch σ).key1 = s.key1 := rfl
@[simp] theorem State.writeSearch_res0 (σ : Search) (s : State) : (s.writeSearch σ).res0 = BitVec.ofNat 32 (storedCount σ.found) := rfl
@[simp] theorem State.writeSearch_res1 (σ : Search) (s : State) : (s.writeSearch σ).res1 = 0 := rfl
@[simp] theorem State.writeSearch_cnt (σ : Search) (s : State) : (s.writeSearch σ).cnt = BitVec.ofNat 5 (storedCount σ.found) := rfl
@[simp] theorem State.writeSearch_cand (σ : Search) (s : State) : (s.writeSearch σ).cand = candBuffer σ.found := rfl
@[simp] theorem State.writeSearch_phase (σ : Search) (s : State) : (s.writeSearch σ).phase = s.phase := rfl
@[simp] theorem State.writeSearch_lat (σ : Search) (s : State) : (s.writeSearch σ).lat = s.lat := rfl
@[simp] theorem State.writeSearch_search (σ : Search) (s : State) : (s.writeSearch σ).search = σ := rfl
@[simp] theorem State.writeSearch_agenda (σ : Search) (s : State) : (s.writeSearch σ).agenda = s.agenda := rfl
@[simp] theorem State.writeSearch_rdata (σ : Search) (s : State) : (s.writeSearch σ).rdata = s.rdata := rfl
@[simp] theorem State.writeSearch_draws (σ : Search) (s : State) : (s.writeSearch σ).draws = s.draws := rfl
@[simp] theorem State.writeSearch_page (σ : Search) (s : State) : (s.writeSearch σ).page = s.page := rfl

@[simp] theorem State.selfTestDone_status (ok : Bool) (s : State) : (s.selfTestDone ok).status = (s.status.selfTest ok).release := rfl
@[simp] theorem State.selfTestDone_arg0 (ok : Bool) (s : State) : (s.selfTestDone ok).arg0 = s.arg0 := rfl
@[simp] theorem State.selfTestDone_arg1 (ok : Bool) (s : State) : (s.selfTestDone ok).arg1 = s.arg1 := rfl
@[simp] theorem State.selfTestDone_key0 (ok : Bool) (s : State) : (s.selfTestDone ok).key0 = s.key0 := rfl
@[simp] theorem State.selfTestDone_key1 (ok : Bool) (s : State) : (s.selfTestDone ok).key1 = s.key1 := rfl
@[simp] theorem State.selfTestDone_res0 (ok : Bool) (s : State) : (s.selfTestDone ok).res0 = s.res0 := rfl
@[simp] theorem State.selfTestDone_res1 (ok : Bool) (s : State) : (s.selfTestDone ok).res1 = s.res1 := rfl
@[simp] theorem State.selfTestDone_cnt (ok : Bool) (s : State) : (s.selfTestDone ok).cnt = s.cnt := rfl
@[simp] theorem State.selfTestDone_cand (ok : Bool) (s : State) : (s.selfTestDone ok).cand = s.cand := rfl
@[simp] theorem State.selfTestDone_phase (ok : Bool) (s : State) : (s.selfTestDone ok).phase = .idle := rfl
@[simp] theorem State.selfTestDone_lat (ok : Bool) (s : State) : (s.selfTestDone ok).lat = s.lat := rfl
@[simp] theorem State.selfTestDone_search (ok : Bool) (s : State) : (s.selfTestDone ok).search = s.search := rfl
@[simp] theorem State.selfTestDone_agenda (ok : Bool) (s : State) : (s.selfTestDone ok).agenda = s.agenda := rfl
@[simp] theorem State.selfTestDone_rdata (ok : Bool) (s : State) : (s.selfTestDone ok).rdata = s.rdata := rfl
@[simp] theorem State.selfTestDone_draws (ok : Bool) (s : State) : (s.selfTestDone ok).draws = s.draws := rfl
@[simp] theorem State.selfTestDone_page (ok : Bool) (s : State) : (s.selfTestDone ok).page = s.page := rfl

@[simp] theorem State.reject_status (e : ErrCode) (s : State) : (s.reject e).status = s.status.record e := rfl
@[simp] theorem State.reject_arg0 (e : ErrCode) (s : State) : (s.reject e).arg0 = s.arg0 := rfl
@[simp] theorem State.reject_arg1 (e : ErrCode) (s : State) : (s.reject e).arg1 = s.arg1 := rfl
@[simp] theorem State.reject_key0 (e : ErrCode) (s : State) : (s.reject e).key0 = s.key0 := rfl
@[simp] theorem State.reject_key1 (e : ErrCode) (s : State) : (s.reject e).key1 = s.key1 := rfl
@[simp] theorem State.reject_res0 (e : ErrCode) (s : State) : (s.reject e).res0 = s.res0 := rfl
@[simp] theorem State.reject_res1 (e : ErrCode) (s : State) : (s.reject e).res1 = s.res1 := rfl
@[simp] theorem State.reject_cnt (e : ErrCode) (s : State) : (s.reject e).cnt = s.cnt := rfl
@[simp] theorem State.reject_cand (e : ErrCode) (s : State) : (s.reject e).cand = s.cand := rfl
@[simp] theorem State.reject_phase (e : ErrCode) (s : State) : (s.reject e).phase = s.phase := rfl
@[simp] theorem State.reject_lat (e : ErrCode) (s : State) : (s.reject e).lat = s.lat := rfl
@[simp] theorem State.reject_search (e : ErrCode) (s : State) : (s.reject e).search = s.search := rfl
@[simp] theorem State.reject_agenda (e : ErrCode) (s : State) : (s.reject e).agenda = s.agenda := rfl
@[simp] theorem State.reject_rdata (e : ErrCode) (s : State) : (s.reject e).rdata = s.rdata := rfl
@[simp] theorem State.reject_draws (e : ErrCode) (s : State) : (s.reject e).draws = s.draws := rfl
@[simp] theorem State.reject_page (e : ErrCode) (s : State) : (s.reject e).page = s.page := rfl

@[simp] theorem State.issue_status (i : Instr) (c : Word) (s : State) : (s.issue i c).status = s.status.take := rfl
@[simp] theorem State.issue_arg0 (i : Instr) (c : Word) (s : State) : (s.issue i c).arg0 = s.arg0 := rfl
@[simp] theorem State.issue_arg1 (i : Instr) (c : Word) (s : State) : (s.issue i c).arg1 = s.arg1 := rfl
@[simp] theorem State.issue_key0 (i : Instr) (c : Word) (s : State) : (s.issue i c).key0 = s.key0 := rfl
@[simp] theorem State.issue_key1 (i : Instr) (c : Word) (s : State) : (s.issue i c).key1 = s.key1 := rfl
@[simp] theorem State.issue_res0 (i : Instr) (c : Word) (s : State) : (s.issue i c).res0 = s.res0 := rfl
@[simp] theorem State.issue_res1 (i : Instr) (c : Word) (s : State) : (s.issue i c).res1 = s.res1 := rfl
@[simp] theorem State.issue_cnt (i : Instr) (c : Word) (s : State) : (s.issue i c).cnt = s.cnt := rfl
@[simp] theorem State.issue_cand (i : Instr) (c : Word) (s : State) : (s.issue i c).cand = s.cand := rfl
@[simp] theorem State.issue_phase (i : Instr) (c : Word) (s : State) : (s.issue i c).phase = .run i := rfl
@[simp] theorem State.issue_lat (i : Instr) (c : Word) (s : State) : (s.issue i c).lat = { op := opOf c, sel := selOf c, arg0 := s.arg0, arg1 := s.arg1, key := s.subkey } := rfl
@[simp] theorem State.issue_search (i : Instr) (c : Word) (s : State) : (s.issue i c).search = searchAtIssue i s := rfl
@[simp] theorem State.issue_agenda (i : Instr) (c : Word) (s : State) : (s.issue i c).agenda = s.agenda := rfl
@[simp] theorem State.issue_rdata (i : Instr) (c : Word) (s : State) : (s.issue i c).rdata = s.rdata := rfl
@[simp] theorem State.issue_draws (i : Instr) (c : Word) (s : State) : (s.issue i c).draws = s.draws := rfl
@[simp] theorem State.issue_page (i : Instr) (c : Word) (s : State) : (s.issue i c).page = s.page := rfl

@[simp] theorem State.statusWrite_status (v : Word) (s : State) : (s.statusWrite v).status = s.status.clear v := rfl
@[simp] theorem State.statusWrite_arg0 (v : Word) (s : State) : (s.statusWrite v).arg0 = s.arg0 := rfl
@[simp] theorem State.statusWrite_arg1 (v : Word) (s : State) : (s.statusWrite v).arg1 = s.arg1 := rfl
@[simp] theorem State.statusWrite_key0 (v : Word) (s : State) : (s.statusWrite v).key0 = s.key0 := rfl
@[simp] theorem State.statusWrite_key1 (v : Word) (s : State) : (s.statusWrite v).key1 = s.key1 := rfl
@[simp] theorem State.statusWrite_res0 (v : Word) (s : State) : (s.statusWrite v).res0 = s.res0 := rfl
@[simp] theorem State.statusWrite_res1 (v : Word) (s : State) : (s.statusWrite v).res1 = s.res1 := rfl
@[simp] theorem State.statusWrite_cnt (v : Word) (s : State) : (s.statusWrite v).cnt = s.cnt := rfl
@[simp] theorem State.statusWrite_cand (v : Word) (s : State) : (s.statusWrite v).cand = s.cand := rfl
@[simp] theorem State.statusWrite_phase (v : Word) (s : State) : (s.statusWrite v).phase = s.phase := rfl
@[simp] theorem State.statusWrite_lat (v : Word) (s : State) : (s.statusWrite v).lat = s.lat := rfl
@[simp] theorem State.statusWrite_search (v : Word) (s : State) : (s.statusWrite v).search = s.search := rfl
@[simp] theorem State.statusWrite_agenda (v : Word) (s : State) : (s.statusWrite v).agenda = s.agenda := rfl
@[simp] theorem State.statusWrite_rdata (v : Word) (s : State) : (s.statusWrite v).rdata = s.rdata := rfl
@[simp] theorem State.statusWrite_draws (v : Word) (s : State) : (s.statusWrite v).draws = s.draws := rfl
@[simp] theorem State.statusWrite_page (v : Word) (s : State) : (s.statusWrite v).page = s.page := rfl

@[simp] theorem State.resetCore_status (s : State) : (s.resetCore).status = .reset := rfl
@[simp] theorem State.resetCore_arg0 (s : State) : (s.resetCore).arg0 = 0 := rfl
@[simp] theorem State.resetCore_arg1 (s : State) : (s.resetCore).arg1 = 0 := rfl
@[simp] theorem State.resetCore_key0 (s : State) : (s.resetCore).key0 = 0 := rfl
@[simp] theorem State.resetCore_key1 (s : State) : (s.resetCore).key1 = 0 := rfl
@[simp] theorem State.resetCore_res0 (s : State) : (s.resetCore).res0 = 0 := rfl
@[simp] theorem State.resetCore_res1 (s : State) : (s.resetCore).res1 = 0 := rfl
@[simp] theorem State.resetCore_cnt (s : State) : (s.resetCore).cnt = 0 := rfl
@[simp] theorem State.resetCore_cand (s : State) : (s.resetCore).cand = Vector.replicate 16 0 := rfl
@[simp] theorem State.resetCore_phase (s : State) : (s.resetCore).phase = .selftestReset := rfl
@[simp] theorem State.resetCore_lat (s : State) : (s.resetCore).lat = { op := 0, sel := 0, arg0 := 0, arg1 := 0, key := 0 } := rfl
@[simp] theorem State.resetCore_search (s : State) : (s.resetCore).search = .empty := rfl
@[simp] theorem State.resetCore_agenda (s : State) : (s.resetCore).agenda = s.agenda := rfl
@[simp] theorem State.resetCore_rdata (s : State) : (s.resetCore).rdata = s.rdata := rfl
@[simp] theorem State.resetCore_draws (s : State) : (s.resetCore).draws = s.draws := rfl
@[simp] theorem State.resetCore_page (s : State) : (s.resetCore).page = s.page := rfl

end Sys2Proof.Machine
end

