-- ==== Sys2Proof/Laws/Exec.lean ====
section
/-! SUPPORT. What every command's completion step does, said once (R53, R55). -/

namespace Sys2Proof.Machine

/-- The four shapes of a completion step: nothing but the end of the command (NOP), a self-test's verdict (SELFTEST), a search's
results (INVERT), or a result in RES1:RES0 (every other command) (R53). -/
theorem exec_cases {i : Instr} {s t : State} (h : exec i s = .next t) :
    (i = .nop ∧ t = s.completed) ∨ (i = .selftest ∧ t = s.selfTestDone (tablesOk rom)) ∨
      (i = .invert ∧ t = (s.writeSearch (s.search.finish s.lat.arg0 s.lat.key)).completed) ∨
      (i ≠ .nop ∧ i ≠ .selftest ∧ i ≠ .invert ∧
        ∃ r0 r1, t = State.completed { s with res0 := r0, res1 := r1 }) := by
  cases i <;> simp only [exec] at h
  case tblrd n =>
    unfold execTblrd at h
    split at h
    · cases h
    · cases h; exact .inr (.inr (.inr ⟨by simp, by simp, by simp, _, _, rfl⟩))
  all_goals cases h
  case nop => exact .inl ⟨rfl, rfl⟩
  case selftest => exact .inr (.inl ⟨rfl, rfl⟩)
  case invert => exact .inr (.inr (.inl ⟨rfl, rfl⟩))
  all_goals exact .inr (.inr (.inr ⟨by simp, by simp, by simp, _, _, rfl⟩))

/-- A completion step ends the command and leaves the operands, the latches and all that lies outside CORE as they were
(R53, R55). -/
theorem exec_frame {i : Instr} {s t : State} (h : exec i s = .next t) :
    t.phase = .idle ∧ t.status.busy = false ∧ t.arg0 = s.arg0 ∧ t.arg1 = s.arg1 ∧ t.key0 = s.key0 ∧ t.key1 = s.key1 ∧
      t.lat = s.lat ∧ t.agenda = s.agenda ∧ t.rdata = s.rdata ∧ t.draws = s.draws ∧ t.page = s.page := by
  obtain ⟨-, rfl⟩ | ⟨-, rfl⟩ | ⟨-, rfl⟩ | ⟨-, -, -, r0, r1, rfl⟩ := exec_cases h <;> simp

/-- TBLRD is the only command whose completion step can stop, and it stops only where there is no entry (log 7). -/
theorem exec_next_or_noTableEntry (i : Instr) (s : State) :
    (∃ t, exec i s = .next t) ∨ ∃ n, i = .tblrd n ∧ tableEntry n s.lat.arg0.toNat = none ∧ exec i s = .fault .noTableEntry := by
  cases i
  case tblrd n =>
    simp only [exec, execTblrd]
    cases h : tableEntry n s.lat.arg0.toNat
    · exact .inr ⟨n, rfl, h, rfl⟩
    · exact .inl ⟨_, rfl⟩
  all_goals exact .inl ⟨_, rfl⟩

end Sys2Proof.Machine
end

