-- ==== Sys2Proof/Laws/Ops.lean ====
section
/-! SUPPORT. What each shared operation can do, said once: the accesses of the window (R29, R30), reads (R32), writes (R33),
and a CMD write (R54). -/

namespace Sys2Proof.Machine

/-- A self-test's verdict on each STATUS field: the code and ERR change only on failure (R87, R101). -/
theorem Status.selfTest_fields (ok : Bool) (t : Status) :
    (t.selfTest ok).cfgOk = ok ∧ (t.selfTest ok).cfgFault = !ok ∧ (t.selfTest ok).err = (t.err || !ok) ∧
      (t.selfTest ok).errCode = (if ok then t.errCode else .configDefect) ∧ (t.selfTest ok).busy = t.busy ∧
      (t.selfTest ok).sound = t.sound ∧ (t.selfTest ok).ovf = t.ovf := by
  cases ok <;> simp [Status.selfTest]

/-- INVERT's effect on each STATUS field (R78, R79, R93). -/
theorem Status.searched_fields (v o : Bool) (t : Status) :
    (t.searched v o).sound = (t.sound || v) ∧ (t.searched v o).ovf = (t.ovf || o) ∧
      (t.searched v o).err = (t.err || v || o) ∧
      (t.searched v o).errCode = (if o then .overflow else if v then .soundness else t.errCode) ∧
      (t.searched v o).busy = t.busy ∧ (t.searched v o).cfgOk = t.cfgOk ∧ (t.searched v o).cfgFault = t.cfgFault := by
  cases v <;> cases o <;> simp [Status.searched]

/-- BASE_ADDR + o lies in the window at offset o (R29). -/
theorem windowOffset_base (page : Nat) {o : Nat} (h : o < 0x100) : windowOffset page (0x100 * page + o) = some o := by
  have h1 : (0x100 * page + o) / 0x100 = page := by omega
  have h2 : (0x100 * page + o) % 0x100 = o := by omega
  rw [windowOffset, if_pos h1, h2]

/-- An aligned 32-bit access of the window reaches word k (R30). -/
theorem access_word (s : State) {k : Nat} (h : k < 64) : s.access (0x100 * s.page + 4 * k) 4 = .ok k := by
  have h1 : (4 * k) % 4 = 0 := by omega
  have h2 : 4 * k / 4 = k := by omega
  simp [State.access, windowOffset_base s.page (show 4 * k < 0x100 by omega), h2]

/-- Any other access of the window is BadAccess (R30). -/
theorem access_bad (s : State) {o n : Nat} (h : o < 0x100) (hbad : n ≠ 4 ∨ o % 4 ≠ 0) :
    s.access (0x100 * s.page + o) n = .error .badAccess := by
  have : ¬(n = 4 ∧ o % 4 = 0) := by tauto
  simp [State.access, windowOffset_base s.page h, this]

theorem access_outside (s : State) {a n : Nat} (h : a / 0x100 ≠ s.page) : s.access a n = .error .outsideWindow := by
  simp [State.access, windowOffset, h]

/-- A read that answers a next state reached a word of the window. -/
theorem hostRead_next {s t : State} {a n : Nat} (h : s.hostRead a n = .next t) : ∃ k, t = s.readWord k := by
  unfold State.hostRead at h
  split at h
  · cases h
  · rename_i k _; exact ⟨k, by simpa using h.symm⟩

/-- A write that answers a next state reached a word of the window. -/
theorem hostWrite_next {s t : State} {a n : Nat} {v : Word} (h : s.hostWrite a n v = .next t) :
    ∃ k, t = s.writeWordAt k v := by
  unfold State.hostWrite at h
  split at h
  · cases h
  · rename_i k _; exact ⟨k, by simpa using h.symm⟩

/-- A read changes nothing but the value returned and the count of drawn values (R32, R105). -/
theorem readWord_frame (s : State) (k : Nat) :
    s.readWord k = { s with rdata := (s.readWord k).rdata, draws := (s.readWord k).draws } := by
  unfold State.readWord
  split
  · rfl
  · split <;> rfl

/-- A CMD write records one of the four issue-time errors or issues the accepted command (R54). -/
theorem cmdWrite_cases (s : State) (c : Word) :
    (∃ e ∈ [ErrCode.busyReject, .illegalCmd, .cfgReject, .badOperand], s.cmdWrite c = s.reject e) ∨
      ∃ i, s.Accepts c i ∧ s.cmdWrite c = s.issue i c := by
  unfold State.cmdWrite
  split
  · exact .inl ⟨_, by simp, rfl⟩
  · rename_i hb
    split
    · exact .inl ⟨_, by simp, rfl⟩
    · rename_i i hd
      split
      · exact .inl ⟨_, by simp, rfl⟩
      · rename_i hc
        split
        · exact .inl ⟨_, by simp, rfl⟩
        · rename_i ho
          refine .inr ⟨i, ⟨by simpa using hb, hd, ?_, by simpa using ho⟩, rfl⟩
          cases i <;> simp_all [allowedInFault]

/-- A write to the window issues or rejects a command, clears STATUS bits, stores an operand, or is ignored (R33). -/
theorem writeWordAt_cases (s : State) (k : Nat) (v : Word) :
    s.writeWordAt k v = s ∨ s.writeWordAt k v = s.cmdWrite v ∨ s.writeWordAt k v = s.statusWrite v ∨
      s.writeWordAt k v = { s with arg0 := v } ∨ s.writeWordAt k v = { s with arg1 := v } ∨
      s.writeWordAt k v = { s with key0 := v } ∨ s.writeWordAt k v = { s with key1 := v.extractLsb' 0 16 } := by
  unfold State.writeWordAt
  split <;> simp

end Sys2Proof.Machine
end

