-- ==== Sys2Proof/Laws/PerInstr.lean ====
section
/-! SUPPORT. The statement family made per instruction: the encoding of every well-formed command matches its own row of the
opcode table (R49). -/

namespace Sys2Proof.Laws.EncodingRow

/-- The word of the command matches the row of its mnemonic. -/
def Statement (i : Instr) : Prop :=
  i.wellFormed = true → ∃ r ∈ opcodeTable, r.mnemonic = i.mnemonic ∧ r.fits (encode i) = true

theorem nop : Statement .nop := fun _ => by decide
theorem expand : Statement .expand := fun _ => by decide
theorem unexpand : Statement .unexpand := fun _ => by decide
theorem subst : Statement .subst := fun _ => by decide
theorem perm : Statement .perm := fun _ => by decide
theorem unperm : Statement .unperm := fun _ => by decide
theorem round : Statement .round := fun _ => by decide
theorem invert : Statement .invert := fun _ => by decide
theorem verify : Statement .verify := fun _ => by decide
theorem sbox : ∀ i : BitVec 3, Statement (.sbox i) := by unfold Statement; decide
theorem sboxinv : ∀ i : BitVec 3, Statement (.sboxinv i) := by unfold Statement; decide
theorem tblrd : ∀ t : BitVec 3, Statement (.tblrd t) := by unfold Statement; decide
theorem selftest : Statement .selftest := fun _ => by decide
theorem adjchk : Statement .adjchk := fun _ => by decide

end Sys2Proof.Laws.EncodingRow
end

