-- ==== Sys2Proof/Laws/Search.lean ====
section
/-! SUPPORT. The search unit: the ascending set of candidates, what one emitted tuple does, and the tuples below a partial
assignment (R75 to R77). -/

namespace Sys2Proof.Machine

/-- A list of words in strictly ascending order: the canonical form in which R is held. -/
abbrev Ascending (l : List Word) : Prop := l.Pairwise fun a b => a.toNat < b.toNat

theorem mem_insertAsc {x z : Word} {l : List Word} : z ∈ insertAsc x l ↔ z = x ∨ z ∈ l := by
  induction l with
  | nil => simp [insertAsc]
  | cons a l ih =>
    rw [insertAsc]
    split
    · simp
    · split
      · rename_i h; subst h; simp
      · simp only [List.mem_cons, ih]; tauto

/-- Insertion keeps the canonical form. -/
theorem ascending_insertAsc {x : Word} {l : List Word} (h : Ascending l) : Ascending (insertAsc x l) := by
  induction l with
  | nil => simp [insertAsc]
  | cons a l ih =>
    have ⟨ha, hl⟩ := List.pairwise_cons.mp h
    rw [insertAsc]
    split
    · rename_i hx
      refine List.pairwise_cons.mpr ⟨fun z hz => ?_, h⟩
      rcases List.mem_cons.mp hz with rfl | hz
      · exact hx
      · exact hx.trans (ha z hz)
    · rename_i hx
      split
      · exact h
      · rename_i hne
        refine List.pairwise_cons.mpr ⟨fun z hz => ?_, ih hl⟩
        rcases mem_insertAsc.mp hz with rfl | hz
        · have : z.toNat ≠ a.toNat := fun he => hne (BitVec.eq_of_toNat_eq he)
          omega
        · exact ha z hz

@[simp] theorem verify_cands (y : Word) (k : Wide) (σ : Search) (p : List Group) : (σ.verify y k p).cands = σ.cands := by
  unfold Search.verify; split <;> rfl

@[simp] theorem verify_stack (y : Word) (k : Wide) (σ : Search) (p : List Group) : (σ.verify y k p).stack = σ.stack := by
  unfold Search.verify; split <;> rfl

theorem verify_ascending {y : Word} {k : Wide} {σ : Search} {p : List Group} (h : Ascending σ.found) :
    Ascending (σ.verify y k p).found := by
  unfold Search.verify; split
  · exact ascending_insertAsc h
  · exact h

@[simp] theorem verifyAll_cands (y : Word) (k : Wide) (σ : Search) (ps : List (List Group)) :
    (σ.verifyAll y k ps).cands = σ.cands := by
  induction ps generalizing σ with
  | nil => rfl
  | cons p ps ih => exact (ih _).trans (verify_cands y k σ p)

@[simp] theorem verifyAll_stack (y : Word) (k : Wide) (σ : Search) (ps : List (List Group)) :
    (σ.verifyAll y k ps).stack = σ.stack := by
  induction ps generalizing σ with
  | nil => rfl
  | cons p ps ih => exact (ih _).trans (verify_stack y k σ p)

theorem verifyAll_append (y : Word) (k : Wide) (σ : Search) (ps qs : List (List Group)) :
    σ.verifyAll y k (ps ++ qs) = (σ.verifyAll y k ps).verifyAll y k qs := by
  simp [Search.verifyAll]

/-- Verifying tuples keeps R ascending. -/
theorem verifyAll_ascending {y : Word} {k : Wide} {σ : Search} (ps : List (List Group)) (h : Ascending σ.found) :
    Ascending (σ.verifyAll y k ps).found := by
  induction ps generalizing σ with
  | nil => exact h
  | cons p ps ih => exact ih (verify_ascending h)

/-- What verification leaves in R: what was there, and the verified candidates of the tuples (R77). -/
theorem mem_verifyAll {y : Word} {k : Wide} {σ : Search} {ps : List (List Group)} {x : Word} :
    x ∈ (σ.verifyAll y k ps).found ↔ x ∈ σ.found ∨ ∃ p ∈ ps, candidateOf p = x ∧ roundK k x = y := by
  induction ps generalizing σ with
  | nil => simp [Search.verifyAll]
  | cons p ps ih =>
    have step : σ.verifyAll y k (p :: ps) = (σ.verify y k p).verifyAll y k ps := rfl
    rw [step, ih]
    unfold Search.verify
    split
    · rename_i h
      rw [mem_insertAsc]
      constructor
      · rintro ((rfl | hx) | ⟨q, hq, hqx⟩)
        · exact .inr ⟨p, by simp, rfl, h⟩
        · exact .inl hx
        · exact .inr ⟨q, by simp [hq], hqx⟩
      · rintro (hx | ⟨q, hq, hqx, hy⟩)
        · exact .inl (.inr hx)
        · rcases List.mem_cons.mp hq with rfl | hq
          · exact .inl (.inl hqx.symm)
          · exact .inr ⟨q, hq, hqx, hy⟩
    · rename_i h
      constructor
      · rintro (hx | ⟨q, hq, hqx⟩)
        · exact .inl hx
        · exact .inr ⟨q, by simp [hq], hqx⟩
      · rintro (hx | ⟨q, hq, hqx, hy⟩)
        · exact .inl hx
        · rcases List.mem_cons.mp hq with rfl | hq
          · exact absurd (hqx ▸ hy) h
          · exact .inr ⟨q, hq, hqx, hy⟩

/-- A violation is recorded exactly when one was, or some emitted candidate fails (R78). -/
theorem verifyAll_violated {y : Word} {k : Wide} {σ : Search} {ps : List (List Group)} :
    (σ.verifyAll y k ps).violated = true ↔ σ.violated = true ∨ ∃ p ∈ ps, roundK k (candidateOf p) ≠ y := by
  induction ps generalizing σ with
  | nil => simp [Search.verifyAll]
  | cons p ps ih =>
    have step : σ.verifyAll y k (p :: ps) = (σ.verify y k p).verifyAll y k ps := rfl
    rw [step, ih]
    unfold Search.verify
    split <;> rename_i h <;> simp [h]

theorem mem_extend {p q C : List Group} : q ∈ extend p C ↔ ∃ v ∈ C, fits p v = true ∧ q = v :: p := by
  simp only [extend, List.mem_map, List.mem_filter]
  constructor
  · rintro ⟨v, ⟨hv, hf⟩, rfl⟩; exact ⟨v, hv, hf, rfl⟩
  · rintro ⟨v, hv, hf, rfl⟩; exact ⟨v, ⟨hv, hf⟩, rfl⟩

theorem tuplesBelow_nil (p : List Group) : tuplesBelow [] p = if wraps p then [p] else [] := rfl

theorem mem_tuplesBelow_cons {C : List Group} {Cs : List (List Group)} {p q : List Group} :
    q ∈ tuplesBelow (C :: Cs) p ↔ ∃ v ∈ C, fits p v = true ∧ q ∈ tuplesBelow Cs (v :: p) := by
  rw [tuplesBelow, List.mem_flatMap]
  constructor
  · rintro ⟨r, hr, hq⟩
    obtain ⟨v, hv, hf, rfl⟩ := mem_extend.mp hr
    exact ⟨v, hv, hf, hq⟩
  · rintro ⟨v, hv, hf, hq⟩
    exact ⟨v :: p, mem_extend.mpr ⟨v, hv, hf, rfl⟩, hq⟩

end Sys2Proof.Machine
end

