-- ==== Sys2Proof/Laws/Step.lean ====
section
/-! SUPPORT. What a step can do, said once; invariants cite these. -/

namespace Sys2Proof.Machine

/-- The engine's completion step: nothing when idle, the running command's, or the reset self-test's (R25, R55, R101). -/
theorem engineComplete_cases {s t : State} (h : s.engineComplete = .next t) :
    (s.phase = .idle ∧ t = s) ∨ (∃ i, s.phase = .run i ∧ exec i s = .next t) ∨
      (s.phase = .selftestReset ∧ t = s.selfTestDone (tablesOk rom)) := by
  unfold State.engineComplete at h
  split at h
  · cases h; exact .inl ⟨‹_›, rfl⟩
  · exact .inr (.inl ⟨_, ‹_›, h⟩)
  · cases h; exact .inr (.inr ⟨‹_›, rfl⟩)

/-- A step with no event to come is a completion; with one, that event is handled (R35, R108). -/
theorem step_cases {s t : State} (h : step s = .next t) :
    (s.agenda = [] ∧ s.engineComplete = .next t) ∨
      ∃ e rest, s.agenda = e :: rest ∧ State.handle e { s with agenda := rest } = .next t := by
  unfold step at h
  split at h
  · exact .inl ⟨‹_›, h⟩
  · exact .inr ⟨_, _, ‹_›, h⟩

/-- What one event can do: an access's effect, a completion (after a STATUS write or not), a search step, a reset (R35). -/
theorem handle_cases {e : Event} {s t : State} (h : State.handle e s = .next t) :
    (∃ k v, t = s.writeWordAt k v) ∨ (∃ k, t = s.readWord k) ∨ s.engineComplete = .next t ∨
      (∃ v, (s.statusWrite v).engineComplete = .next t) ∨ t = s.searchAdvance ∨ t = s.resetCore := by
  cases e with
  | write a n v => exact .inl ((hostWrite_next h).imp fun k hk => ⟨v, hk⟩)
  | read a n => exact .inr (.inl (hostRead_next h))
  | complete => exact .inr (.inr (.inl h))
  | clearAtCompletion v => exact .inr (.inr (.inr (.inl ⟨v, h⟩)))
  | searchStep => cases h; exact .inr (.inr (.inr (.inr (.inl rfl))))
  | reset => cases h; exact .inr (.inr (.inr (.inr (.inr rfl))))

theorem step_nil {s : State} (h : s.agenda = []) : step s = s.engineComplete := by
  unfold step; rw [h]

theorem step_cons {s : State} {e : Event} {rest : List Event} (h : s.agenda = e :: rest) :
    step s = State.handle e { s with agenda := rest } := by
  unfold step; rw [h]

/-- An aligned 32-bit read of word k of the window, as a step (R30, R32). -/
theorem step_read {s : State} {k : Nat} {rest : List Event} (hk : k < 64)
    (h : s.agenda = .read (0x100 * s.page + 4 * k) 4 :: rest) :
    step s = .next (State.readWord k { s with agenda := rest }) := by
  rw [step_cons h]
  have := access_word { s with agenda := rest } hk
  simp only [State.handle, State.hostRead] at this ⊢
  rw [this]

/-- An aligned 32-bit write of word k of the window, as a step (R30, R33). -/
theorem step_write {s : State} {k : Nat} {v : Word} {rest : List Event} (hk : k < 64)
    (h : s.agenda = .write (0x100 * s.page + 4 * k) 4 v :: rest) :
    step s = .next (State.writeWordAt k v { s with agenda := rest }) := by
  rw [step_cons h]
  have := access_word { s with agenda := rest } hk
  simp only [State.handle, State.hostWrite] at this ⊢
  rw [this]

end Sys2Proof.Machine
end

