-- ==== Sys2Proof/Tests/Slice0.lean ====
section
/-! SUPPORT. Tests on fixed values and witnesses that the statements' hypotheses can be met. Every expected value is the spec's own:
30_encoding.md R47 and R57 for the words, 95_test_vectors.md sections 3 and 4 for the results, or the example of the rule named. -/

namespace Sys2Proof.Tests

open Sys2Proof.Machine

/-! ### Words written out from the encodings of R46, R47 and R57 -/

theorem test_decode_nop : decode 0x00000000 = .ok .nop := by decide
theorem test_decode_expand : decode 0x00000001 = .ok .expand := by decide
theorem test_decode_unexpand : decode 0x00000002 = .ok .unexpand := by decide
theorem test_decode_subst : decode 0x00000003 = .ok .subst := by decide
theorem test_decode_perm : decode 0x00000004 = .ok .perm := by decide
theorem test_decode_unperm : decode 0x00000005 = .ok .unperm := by decide
theorem test_decode_round : decode 0x00000006 = .ok .round := by decide
theorem test_decode_invert : decode 0x00000007 = .ok .invert := by decide
theorem test_decode_verify : decode 0x00000008 = .ok .verify := by decide
theorem test_decode_sbox : decode 0b00000000000000000000010100001001 = .ok (.sbox 5) := by decide
theorem test_decode_sboxinv : decode 0b00000000000000000000011100001010 = .ok (.sboxinv 7) := by decide
theorem test_decode_tblrd : decode 0b00000000000000000000001100001011 = .ok (.tblrd 3) := by decide
theorem test_decode_selftest : decode 0x0000000C = .ok .selftest := by decide
theorem test_decode_adjchk : decode 0x0000000D = .ok .adjchk := by decide
theorem test_decode_unassigned : decode 0x0000000E = .error .unassignedOp ∧ decode 0x000000FF = .error .unassignedOp := by
  decide
theorem test_decode_sel : decode 0x00000100 = .error .illegalSel ∧ decode 0x0000040B = .error .illegalSel := by decide
theorem test_decode_rsvd : decode 0x00000801 = .error .reservedBits ∧ decode 0x80000009 = .error .reservedBits := by decide
theorem test_decode_bytes : decodeBytes [0x0A, 0x03, 0x00, 0x00] = .ok (.sboxinv 3) ∧
    decodeBytes [0x0A, 0x03, 0x00] = .error .notOneWord := by decide
theorem test_decodeTableWord : decodeTableWord 32 0x30B = some (.tblrd 3) ∧ decodeTableWord 32 0xE = none := by decide

/-! ### WellFormed refuses an ill-formed term -/

theorem test_wellFormed_tblrd : Instr.wellFormed (.tblrd 4) = false ∧ Instr.wellFormed (.tblrd 7) = false ∧
    Instr.wellFormed (.tblrd 3) = true := by decide

/-! ### Completion steps -/

/-- B0 of 95_test_vectors.md with operands and a subkey: idle, STATUS = 0x00000002. -/
def booted (a0 a1 : Word) (k : Wide) : State :=
  { State.reset with
    status := { Status.reset with busy := false, cfgOk := true }
    phase := .idle
    arg0 := a0, arg1 := a1, key0 := k.extractLsb' 0 32, key1 := k.extractLsb' 32 16 }

/-- The command i issued on those operands. -/
def issued (i : Instr) (a0 a1 : Word) (k : Wide) : State := (booted a0 a1 k).issue i (encode i)

/-- What a completion step leaves, seen through f; none if it stops. -/
def seen {α : Type} (f : State → α) (o : Host.Outcome State Fault Refusal) : Option α :=
  match o with
  | .next t => some (f t)
  | .fault _ => none
  | .refused _ => none

/-- RES1, RES0 and STATUS. -/
def results (t : State) : BitVec 16 × Word × Word := (t.res1, t.res0, t.status.word)

theorem test_nop : seen results (exec .nop { issued .nop 5 6 0 with res0 := 7, res1 := 8 }) =
    some (8, 7, 0x00000002) := by decide
theorem test_expand : seen results (exec .expand (issued .expand 0x12345678 0 0)) =
    some (0x0A41, 0xA82AC3F0, 0x00000002) := by decide
theorem test_unexpand : seen results (exec .unexpand (issued .unexpand 0xA82AC3F0 0xFFFF0A41 0)) =
    some (0, 0x12345678, 0x00000002) := by decide
theorem test_unexpand_inconsistent : seen results (exec .unexpand (issued .unexpand 0x000000FF 0 0)) =
    some (0, 0x0000001E, 0x00000002) := by decide
theorem test_subst : seen results (exec .subst (issued .subst 0x56789ABC 0x00001234 0x0123456789AB)) =
    some (0, 0xD8259735, 0x00000002) := by decide
theorem test_perm : seen results (exec .perm (issued .perm 0x12345678 0 0)) = some (0, 0x6E34140E, 0x00000002) := by decide
theorem test_unperm : seen results (exec .unperm (issued .unperm 0x12345678 0 0)) =
    some (0, 0x250C4E74, 0x00000002) := by decide
theorem test_round : seen results (exec .round (issued .round 0xF0AAF0AA 0 0x1B02EFFC7072)) =
    some (0, 0x234AA9BB, 0x00000002) := by decide +kernel
theorem test_verify : seen results (exec .verify (issued .verify 0 0xEAD3E2D5 0x0123456789AB)) =
    some (0, 1, 0x00000002) := by decide +kernel
theorem test_verify_differs : seen results (exec .verify (issued .verify 0 0xD8D8DBBD 0)) =
    some (0, 0, 0x00000002) := by decide +kernel
theorem test_sbox : seen results (exec (.sbox 7) (issued (.sbox 7) 0x21 0 0)) = some (0, 2, 0x00000002) := by decide
theorem test_sboxinv : seen results (exec (.sboxinv 7) (issued (.sboxinv 7) 0xF 0 0)) =
    some (0, 0x04E31283, 0x00000002) := by decide
theorem test_tblrd_e : seen results (exec (.tblrd 0) (issued (.tblrd 0) 47 0 0)) = some (0, 1, 0x00000002) := by decide
theorem test_tblrd_pinv : seen results (exec (.tblrd 3) (issued (.tblrd 3) 0 0 0)) = some (0, 9, 0x00000002) := by decide
theorem test_adjchk : seen results (exec .adjchk (issued .adjchk 0x56789ABC 0x1234 0)) =
    some (0, 0x84, 0x00000002) := by decide
theorem test_selftest : seen results (exec .selftest (issued .selftest 0 0 0)) = some (0, 0, 0x00000002) := by
  decide +kernel

theorem test_invert_keyed : seen (fun t => (t.cnt, t.res0, t.cand.toList.take 4))
    (exec .invert (issued .invert 0xEAD3E2D5 0 0x0123456789AB)) =
      some (3, 3, [0x00000000, 0xBB20001D, 0xBB791D3D, 0x00000000]) := by decide +kernel
theorem test_invert_empty : seen (fun t => (t.cnt, t.res0, t.status.word)) (exec .invert (issued .invert 0 0 0)) =
    some (0, 0, 0x00000002) := by decide

/-! ### Issue, STATUS and reset, one step each -/

/-- The state with one event to come. -/
def facing (e : Event) (s : State) : State := { s with agenda := [e] }

theorem test_issue_illegal : seen results (step (facing (.write 0 4 0x0000000E) (booted 0 0 0))) =
    some (0, 0, 0x0000010A) := by decide
theorem test_issue_badOperand : seen results (step (facing (.write 0 4 0x00000009) (booted 0x40 0 0))) =
    some (0, 0, 0x0000030A) := by decide
theorem test_issue_busyFirst : seen (fun t => t.status.errCode) (step (facing (.write 0 4 0x000000FF) State.reset)) =
    some .busyReject := by decide
theorem test_issue_cfgBeforeOperand : seen (fun t => t.status.errCode)
    (step (facing (.write 0 4 0x00000009) { booted 0x40 0 0 with status :=
      { Status.reset with busy := false, cfgFault := true } })) = some .cfgReject := by decide
theorem test_clrErr : seen results (step (facing (clrErr 0) { booted 0 0 0 with status :=
    { Status.reset with busy := false, cfgOk := true, err := true, errCode := .badOperand } })) =
      some (0, 0, 0x00000002) := by decide
theorem test_read_key1 : seen (fun t => t.rdata) (step (facing (rd 7 .key1)
    { booted 0 0 0x123456789ABC with page := 7 })) = some 0x00001234 := by decide
theorem test_read_reserved : seen (fun t => t.rdata) (step (facing (.read 0x24 4) (booted 1 1 1))) = some 0 := by decide
theorem test_access_halfword : (step (facing (.read 0x08 2) (booted 0 0 0)) matches .fault .badAccess) = true := by decide
theorem test_boot : seen results (step State.reset) = some (0, 0, 0x00000002) := by decide +kernel

/-- A defective ROM fails check (b): E⁻¹ naming a position of another bit (R86). -/
theorem test_tables_defect : tablesOk { rom with einv := rom.einv.set 0 3 } = false := by decide

/-! ### Witnesses of the statements' hypotheses -/

/-- CMD is about to be written. -/
def facingCmd (c : Word) (s : State) : State := facing (.write (0x100 * s.page) 4 c) s

/-- The booted state with CFG_FAULT = 1. -/
def faulty (a0 : Word) : State :=
  { booted a0 0 0 with status := { Status.reset with busy := false, cfgFault := true } }

theorem witness_illegalWord : let s := facingCmd 0xE (booted 0 0 0)
    s.agenda = .write (0x100 * s.page) 4 0xE :: [] ∧ s.status.busy = false ∧ legal 0xE = false := by decide
theorem witness_decodedWord : decode 0x70A = .ok (.sboxinv 7) := by decide
theorem witness_cmdWrite_busy : let s := facingCmd 0 State.reset
    s.agenda = .write (0x100 * s.page) 4 0 :: [] ∧ s.status.busy = true := by decide
theorem witness_cmdWrite_gated : let s := facingCmd 1 (faulty 0)
    s.agenda = .write (0x100 * s.page) 4 1 :: [] ∧ s.status.busy = false ∧ legal 1 = true ∧ s.status.cfgFault = true ∧
      ¬((1 : Word).extractLsb' 0 8 = 0x00 ∨ (1 : Word).extractLsb' 0 8 = 0x0C) ∧ decode 1 = .ok .expand := by decide
theorem witness_cmdWrite_badOperand : let s := facingCmd 0x20B (booted 32 0 0)
    s.agenda = .write (0x100 * s.page) 4 0x20B :: [] ∧ s.status.busy = false ∧ decode 0x20B = .ok (.tblrd 2) ∧
      s.status.cfgFault = false ∧ operandOutOfRange (.tblrd 2) s.arg0 = true := by decide
theorem witness_cmdWrite_accepted : let s := facingCmd 0x20B (booted 31 0 0)
    s.agenda = .write (0x100 * s.page) 4 0x20B :: [] ∧ s.status.busy = false ∧ decode 0x20B = .ok (.tblrd 2) ∧
      s.status.cfgFault = false ∧ operandOutOfRange (.tblrd 2) s.arg0 = false := by decide
theorem witness_gate_selftest : let s := facingCmd 0xC (faulty 0)
    s.agenda = .write (0x100 * s.page) 4 0xC :: [] ∧ s.status.busy = false ∧ s.status.cfgFault = true ∧
      decode 0xC = .ok .selftest := by decide
theorem witness_gate_clearedBySelftest :
    let s : State := { (faulty 0).issue .selftest 0xC with agenda := [.complete] }
    seen (fun t => t.status.cfgFault) (step s) = some false ∧ s.status.cfgFault = true := by decide +kernel
theorem witness_gate_cleared : let s := facing .reset (faulty 0)
    seen (fun t => t.status.cfgFault) (step s) = some false ∧ s.status.cfgFault = true := by decide

/-- The operand ranges of R51 at their boundaries, the last legal operand and the first illegal one of each form. -/
theorem witness_operandRanges :
    operandOutOfRange (.sbox 7) 63 = false ∧ operandOutOfRange (.sbox 7) 64 = true ∧
    operandOutOfRange (.sboxinv 0) 15 = false ∧ operandOutOfRange (.sboxinv 0) 16 = true ∧
    operandOutOfRange (.tblrd 0) 47 = false ∧ operandOutOfRange (.tblrd 0) 48 = true ∧
    operandOutOfRange (.tblrd 3) 31 = false ∧ operandOutOfRange (.tblrd 3) 32 = true := by decide
theorem witness_operandRangesIssue : let s := facingCmd (encode (.tblrd 0)) (booted 48 0 0)
    s.agenda = .write (0x100 * s.page) 4 (encode (.tblrd 0)) :: [] ∧ s.status.busy = false ∧ s.status.cfgFault = false ∧
      Instr.wellFormed (.tblrd 0) = true := by decide

theorem witness_notAccepted : let s := facingCmd 0 State.reset
    s.agenda = .write (0x100 * s.page) 4 0 :: [] ∧ ∀ i, ¬s.Accepts 0 i :=
  ⟨by decide, fun _ h => absurd h.1 (by decide)⟩
theorem witness_accepted_invert : let s := facingCmd 7 (booted 0 0 0)
    s.agenda = .write (0x100 * s.page) 4 7 :: [] ∧ s.Accepts 7 .invert :=
  ⟨by decide, by decide, by decide, by decide, by decide⟩
theorem witness_accepted_other : let s := facingCmd 6 (booted 0 0 0)
    s.agenda = .write (0x100 * s.page) 4 6 :: [] ∧ s.Accepts 6 .round :=
  ⟨by decide, by decide, by decide, by decide, by decide⟩
theorem witness_acceptedThenComplete :
    let s : State := { booted 0 0 0 with agenda := [.write 0 4 6, .complete] }
    s.agenda = .write (0x100 * s.page) 4 6 :: .complete :: [] ∧ s.Accepts 6 .round :=
  ⟨by decide, by decide, by decide, by decide, by decide⟩
theorem witness_placedWord : (0x30B : Nat) < 2 ^ 32 ∧ decode (BitVec.ofNat 32 0x30B) = .ok (.tblrd 3) := by decide
theorem witness_running : (issued .round 0 0 0).phase = .run .round ∧ (issued .round 0 0 0).agenda = [] ∧
    (facing .complete (issued .round 0 0 0)).agenda = .complete :: [] ∧
    (facing (.clearAtCompletion 0x38) (issued .round 0 0 0)).agenda = .clearAtCompletion 0x38 :: [] := by decide

theorem witness_firstInE_low : 1 ≤ 32 ∧ 32 ≤ 32 ∧ FirstInE 32 1 := ⟨by decide, le_rfl, by decide, fun _ h => h.1⟩
theorem witness_firstInE_high : FirstInE 1 2 := by
  refine ⟨by decide, fun k hk => ?_⟩
  have h1 := hk.1
  by_contra hlt
  have : k = 1 := by omega
  subst this
  exact absurd hk.2.2 (by decide)
theorem witness_tblrd_last : (0 : BitVec 3).toNat ≤ 3 ∧
    (issued (.tblrd 0) 47 0 0).lat.arg0.toNat < (if (0 : BitVec 3) = 0 then 48 else 32) ∧
    (issued (.tblrd 3) 31 0 0).lat.arg0.toNat < (if (3 : BitVec 3) = 0 then 48 else 32) := by decide
theorem witness_tblrd_stops : (4 : Nat) ≤ (4 : BitVec 3).toNat ∧
    (if (0 : BitVec 3) = 0 then 48 else 32) ≤ (issued (.tblrd 0) 48 0 0).lat.arg0.toNat ∧
    (if (1 : BitVec 3) = 0 then 48 else 32) ≤ (issued (.tblrd 1) 32 0 0).lat.arg0.toNat := by decide
theorem witness_expansion : expand 0x12345678 = 0x0A41A82AC3F0 := by decide
theorem witness_secondCopies : ∀ b, b < 48 →
    b ∉ [0, 1, 4, 5, 10, 11, 16, 17, 22, 23, 28, 29, 34, 35, 40, 41] →
    (0x000000000000 : Wide).getLsbD b = (0x000000000003 : Wide).getLsbD b := by decide

theorem witness_toward (y a1 : Word) (k : Wide) : (issued .invert y a1 k).search.Toward
    (issued .invert y a1 k).lat.arg0 (issued .invert y a1 k).lat.key := ⟨0, rfl⟩

/-- The sixteen preimages of 0x1540483C under the subkey 0 (95_test_vectors.md section 3.4). -/
def sixteenPreimages : List Word :=
  [0x0E4973AC, 0x0E49761E, 0x0E4A801E, 0x0E4A85AC, 0x0FBD73AC, 0x0FBD761E, 0x0FBE801E, 0x0FBE85AC] ++
    [0xD84973A9, 0xD849761D, 0xD84A801D, 0xD84A85A9, 0xDDBD73A9, 0xDDBD761D, 0xDDBE801D, 0xDDBE85A9]

theorem test_sixteenPreimages : sixteenPreimages.all (fun x => roundK 0 x == 0x1540483C) = true := by decide +kernel

/-- A target with sixteen preimages: the bound is met. -/
theorem witness_sixteenPreimages : sixteenPreimages.Nodup ∧ (∀ x ∈ sixteenPreimages, roundK 0 x = 0x1540483C) ∧
    sixteenPreimages.length = 16 :=
  ⟨by decide +kernel, by simpa only [List.all_eq_true, beq_iff_eq] using test_sixteenPreimages, rfl⟩

/-- A running INVERT whose search has found seventeen candidates and one violation: both conditions of R93 hold. -/
def defective : State :=
  { issued .invert 0 0 0 with search :=
    { cands := [], stack := [], found := (List.range 17).map (BitVec.ofNat 32), violated := true } }

theorem witness_bothDefects : let s := facing (.clearAtCompletion 0x38) defective
    s.agenda = .clearAtCompletion 0x38 :: [] ∧ s.phase = .run .invert ∧
      16 < (s.search.finish s.lat.arg0 s.lat.key).found.length ∧
      (s.search.finish s.lat.arg0 s.lat.key).violated = true := by decide
/-- A clearing write in the same event loses to SOUND, OVF, ERR and the code OVERFLOW alike (R90, R93). -/
theorem test_bothDefects_clearLoses : seen (fun t => t.status.word) (step (facing (.clearAtCompletion 0x38) defective)) =
    some 0x0000063A := by decide
theorem witness_oneDefect : let s : State := { defective with search := { defective.search with found := [0] } }
    (s.search.finish s.lat.arg0 s.lat.key).found.length ≤ 16 ∧
      (s.search.finish s.lat.arg0 s.lat.key).violated = true := by decide
theorem test_bothDefects : seen (fun t => (t.status.word, t.cnt)) (exec .invert defective) = some (0x0000063A, 16) := by
  decide
theorem witness_searchStep : (facing .searchStep (issued .invert 0 0 0)).agenda = .searchStep :: [] := by decide

theorem witness_checks : rom.e.length = 48 ∧ rom.einv.length = 32 ∧ rom.p.length = 32 ∧ rom.pinv.length = 32 ∧
    permutationsOk rom = true ∧ expansionOk rom = true := by decide +kernel

theorem witness_statusWrite : let s := facing (.write 0x704 4 0x38) { State.reset with page := 7 }
    s.agenda = .write (0x100 * s.page + 0x04) 4 0x38 :: [] ∧ (0x38 : Word).getLsbD 3 = true ∧
      (0x38 : Word).getLsbD 4 = true ∧ (0x38 : Word).getLsbD 5 = true ∧ (0x07 : Word).getLsbD 3 = false := by decide
theorem witness_windowWrite : let s := facing (.write 0x7FC 4 1) { State.reset with page := 7 }
    (63 : Nat) < 64 ∧ s.agenda = .write (0x100 * s.page + 4 * 63) 4 1 :: [] := by decide
theorem witness_windowRead : let s := facing (.read 0x77C 4) { booted 0 0 0 with page := 7 }
    (31 : Nat) < 64 ∧ s.agenda = .read (0x100 * s.page + 4 * 31) 4 :: [] ∧ s.status.busy = false ∧
      31 = 16 + (15 : Fin 16).val := by decide
theorem witness_reserved : let s := facing (.read 0x3C 4) State.reset
    0x3C % 4 = 0 ∧ ((0x24 ≤ 0x3C ∧ 0x3C ≤ 0x3C) ∨ (0x80 ≤ 0x3C ∧ 0x3C ≤ 0xFC)) ∧
      s.agenda = .read (0x100 * s.page + 0x3C) 4 :: [] := by decide
theorem witness_busyRead : let s := facing (.read 0x18 4) State.reset
    s.status.busy = true ∧ ((6 ≤ 6 ∧ 6 ≤ 8) ∨ (16 ≤ 6 ∧ 6 < 32)) ∧ s.agenda = .read (0x100 * s.page + 4 * 6) 4 :: [] := by
  decide
theorem witness_badAccess : let s := facing (.read 0x1 4) State.reset
    0x1 < 0x100 ∧ (4 ≠ 4 ∨ 0x1 % 4 ≠ 0) ∧ s.agenda = .read (0x100 * s.page + 0x1) 4 :: [] := by decide
theorem witness_outside : let s := facing (.write 0x800 4 0) { State.reset with page := 7 }
    (0x800 < 0x100 * s.page ∨ 0x100 * s.page + 0x100 ≤ 0x800) ∧ s.agenda = .write 0x800 4 0 :: [] := by decide
theorem witness_reset : (facing .reset (issued .invert 1 2 3)).agenda = .reset :: [] := by decide
theorem witness_resetSelfTest : (facing .complete State.reset).phase = .selftestReset ∧
    (facing .complete State.reset).agenda = .complete :: [] := by decide
theorem witness_run_event : let s := facing (.write 0x08 4 5) (issued .round 1 2 3)
    s.agenda = .write 0x08 4 5 :: [] ∧ s.phase ≠ .idle ∧ s.status.busy = true ∧
      (.write 0x08 4 5 : Event) ≠ .complete ∧ (∀ v, (.write 0x08 4 5 : Event) ≠ .clearAtCompletion v) ∧
      (.write 0x08 4 5 : Event) ≠ .reset ∧ seen (fun t => t.arg0) (step s) = some 5 :=
  ⟨by decide, by decide, by decide, by decide, fun _ => by simp, by decide, by decide⟩
theorem witness_results_change : let s := issued .invert 0xD8D8DBBC 0 0
    seen (fun t => decide (t.cnt ≠ s.cnt ∧ t.res0 ≠ s.res0)) (step s) = some true := by decide +kernel

theorem witness_inv (a0 a1 : Word) (k : Wide) : (booted a0 a1 k).Inv where
  busy := by simp [booted]
  exclusive := by simp [booted, Status.reset]
  untested := by simp [booted]
  errCode := by simp [booted, Status.reset]
  running := by simp [booted]
  candidates := ⟨by simp [booted, State.reset], by simp [booted, State.reset], by simp [booted, State.reset]⟩
theorem witness_noDefect : (booted 0 0 0).NoDefect ∧ ∃ t, step (booted 0 0 0) = .next t :=
  ⟨⟨witness_inv 0 0 0, by decide, by decide⟩, _, rfl⟩
theorem witness_busyEngine : (issued .nop 0 0 0).Inv ∧ (issued .nop 0 0 0).phase ≠ .idle ∧ (issued .nop 0 0 0).agenda = [] := by
  refine ⟨?_, by decide, by decide⟩
  refine ⟨by decide, by decide, by decide, by decide, ?_,
    ⟨(witness_inv 0 0 0).candidates.count, (witness_inv 0 0 0).candidates.ascending, (witness_inv 0 0 0).candidates.padded⟩⟩
  intro i hi
  obtain rfl : i = .nop := by simpa [issued, State.issue] using hi.symm
  exact ⟨rfl, by decide, by decide, rfl, by simp⟩

theorem witness_polledRound : let s : State := { booted 0 0 0 with agenda := setKey 0 5 ++ (roundLines 0 3 9 ++ []) }
    s.status.busy = false ∧ s.status.cfgFault = false ∧
      s.agenda = setKey s.page 5 ++ (roundLines s.page 3 9 ++ []) := by decide
theorem witness_polledInvert : let s : State := { booted 0 0 0 with agenda := invertLines 0 2 0xD8D8DBBC 0 ++ [] }
    s.status.busy = false ∧ s.status.cfgFault = false ∧ s.agenda = invertLines s.page 2 0xD8D8DBBC 0 ++ [] := by decide

end Sys2Proof.Tests
end

section
/-! PROOFS. The consistent 48-bit values (00_scope.md R9, 43_inverter.md R81). The sharing invariant is read as equalities between
bits, the second copy that E makes of an input bit and the first; E⁻¹ reads the first copies, so E after E⁻¹ gives back a value
whose copies agree. -/

namespace Sys2Proof.Machine

/-- Bit b of g[1:0] of group i of a 48-bit value. -/
def tailBit (i b : Nat) : Nat := 6 * (7 - i) + b

/-- Bit b of g[5:4] of the group after group i, cyclically: what the sharing invariant holds equal to `tailBit i b` (R9). -/
def headBit (i b : Nat) : Nat := 6 * (7 - (i + 1) % 8) + (4 + b)

/-- The bit of a half-block that E places at bit j (R39). -/
def expandSource (j : Nat) : Nat := 32 - (rom.e.getD (47 - j) 0).toNat

/-- The bit of a 48-bit value that E⁻¹ takes for bit j: the first copy that E made of it (R41). -/
def firstCopy (j : Nat) : Nat := 48 - (rom.einv.getD (31 - j) 0).toNat

theorem getLsbD_expand_source (x : Word) {j : Nat} (hj : j < 48) :
    (expand x).getLsbD j = x.getLsbD (expandSource j) := getLsbD_expand x hj

theorem getLsbD_unexpand_firstCopy (w : Wide) {j : Nat} (hj : j < 32) :
    (unexpand w).getLsbD j = w.getLsbD (firstCopy j) := getLsbD_unexpand w hj

/-! ### What the ROM tables say of the copies -/

theorem headBit_lt : ∀ i < 8, ∀ b < 2, headBit i b < 48 := by decide

theorem tailBit_lt : ∀ i < 8, ∀ b < 2, tailBit i b < 48 := by decide

theorem firstCopy_lt : ∀ j < 32, firstCopy j < 48 := by decide

theorem expandSource_lt : ∀ j < 48, expandSource j < 32 := by decide

/-- E places one input bit at both ends of a shared pair. -/
theorem expandSource_tailBit : ∀ i < 8, ∀ b < 2, expandSource (tailBit i b) = expandSource (headBit i b) := by decide

/-- E⁻¹ takes each input bit from a place where E put it. -/
theorem expandSource_firstCopy : ∀ j < 32, expandSource (firstCopy j) = j := by decide

/-- Each bit of E's result is a first copy, or one end of a shared pair whose other end is the first copy. -/
theorem firstCopy_expandSource : ∀ j < 48, firstCopy (expandSource j) = j ∨
    ∃ i < 8, ∃ b < 2, (j = tailBit i b ∧ firstCopy (expandSource j) = headBit i b) ∨
      (j = headBit i b ∧ firstCopy (expandSource j) = tailBit i b) := by decide

/-! ### Consistency, bit by bit -/

theorem getLsbD_lo2_group (w : Wide) (i : Nat) {b : Nat} (hb : b < 2) :
    (lo2 (group w i)).getLsbD b = w.getLsbD (tailBit i b) := by
  simp [lo2, tailBit, hb, getLsbD_group w i (show b < 6 by omega)]

theorem getLsbD_hi2_group_next (w : Wide) (i : Nat) {b : Nat} (hb : b < 2) :
    (hi2 (group w ((i + 1) % 8))).getLsbD b = w.getLsbD (headBit i b) := by
  simp [hi2, headBit, hb, getLsbD_group w ((i + 1) % 8) (show 4 + b < 6 by omega)]

theorem adj_iff_getLsbD (w : Wide) (i : Nat) :
    adj w i = true ↔ ∀ b < 2, w.getLsbD (tailBit i b) = w.getLsbD (headBit i b) := by
  rw [adj_iff]
  constructor
  · intro h b hb
    rw [← getLsbD_lo2_group w i hb, h, getLsbD_hi2_group_next w i hb]
  · intro h
    refine BitVec.eq_of_getLsbD_eq fun b hb => ?_
    rw [getLsbD_lo2_group w i hb, h b hb, getLsbD_hi2_group_next w i hb]

theorem consistent_iff_getLsbD (w : Wide) :
    consistent w = true ↔ ∀ i < 8, ∀ b < 2, w.getLsbD (tailBit i b) = w.getLsbD (headBit i b) := by
  simp only [consistent_iff, adj_iff_getLsbD]

/-! ### E and E⁻¹ -/

theorem consistent_expand (x : Word) : consistent (expand x) = true := by
  rw [consistent_iff_getLsbD]
  intro i hi b hb
  rw [getLsbD_expand_source x (tailBit_lt i hi b hb), getLsbD_expand_source x (headBit_lt i hi b hb),
    expandSource_tailBit i hi b hb]

theorem unexpand_expand (x : Word) : unexpand (expand x) = x := by
  refine BitVec.eq_of_getLsbD_eq fun j hj => ?_
  rw [getLsbD_unexpand_firstCopy _ hj, getLsbD_expand_source x (firstCopy_lt j hj), expandSource_firstCopy j hj]

/-- In a consistent value every bit equals the first copy of the input bit it stands for. -/
theorem getLsbD_firstCopy_of_consistent {w : Wide} (hw : consistent w = true) {j : Nat} (hj : j < 48) :
    w.getLsbD (firstCopy (expandSource j)) = w.getLsbD j := by
  rw [consistent_iff_getLsbD] at hw
  obtain hfirst | ⟨i, hi, b, hb, ⟨htail, hcopy⟩ | ⟨hhead, hcopy⟩⟩ := firstCopy_expandSource j hj
  · rw [hfirst]
  · rw [hcopy, htail, hw i hi b hb]
  · rw [hcopy, hhead, hw i hi b hb]

theorem expand_unexpand {w : Wide} (hw : consistent w = true) : expand (unexpand w) = w := by
  refine BitVec.eq_of_getLsbD_eq fun j hj => ?_
  rw [getLsbD_expand_source _ hj, getLsbD_unexpand_firstCopy w (expandSource_lt j hj),
    getLsbD_firstCopy_of_consistent hw hj]

theorem consistent_iff_exists_expand (w : Wide) : consistent w = true ↔ ∃ x, expand x = w := by
  constructor
  · exact fun hw => ⟨unexpand w, expand_unexpand hw⟩
  · rintro ⟨x, rfl⟩
    exact consistent_expand x

/-- Settles O19: E after E⁻¹ gives a consistent value back, every expansion is consistent, and E⁻¹ undoes E. -/
theorem consistentValuesAreExpansions : Obligations.ConsistentValuesAreExpansions := by
  unfold Obligations.ConsistentValuesAreExpansions
  refine fun w => ⟨consistent_iff_exists_expand w, ?_⟩
  rintro x rfl
  exact (unexpand_expand x).symm

end Sys2Proof.Machine
end

section
/-! PROOFS. The search unit's steps (10_state.md R27, 43_inverter.md R74 to R78): one internal step leaves the end of the search where
it was, and every search that has a start holds its candidates in ascending order. -/

namespace Sys2Proof.Machine

/-! ### One internal step -/

theorem next_of_stack_nil {y : Word} {k : Wide} {σ : Search} (h : σ.stack = []) : σ.next y k = σ := by
  simp [Search.next, h]

/-- A full assignment is emitted and verified if it wraps. -/
theorem next_of_full {y : Word} {k : Wide} {σ : Search} {p : List Group} {rest : List (List Group)}
    (h : σ.stack = p :: rest) (hfull : σ.cands.drop p.length = []) :
    σ.next y k = Search.verifyAll y k { σ with stack := rest } (tuplesBelow [] p) := by
  simp [Search.next, h, hfull]

/-- A partial assignment is replaced by its extensions. -/
theorem next_of_partial {y : Word} {k : Wide} {σ : Search} {p C : List Group} {rest Cs : List (List Group)}
    (h : σ.stack = p :: rest) (hpartial : σ.cands.drop p.length = C :: Cs) :
    σ.next y k = { σ with stack := extend p C ++ rest } := by
  simp [Search.next, h, hpartial]

/-- Step 5 does not look at the stack. -/
theorem verify_withStack (y : Word) (k : Wide) (σ : Search) (l : List (List Group)) (p : List Group) :
    Search.verify y k { σ with stack := l } p = { σ.verify y k p with stack := l } := by
  unfold Search.verify
  split <;> rfl

theorem verifyAll_withStack (y : Word) (k : Wide) (σ : Search) (l ps : List (List Group)) :
    Search.verifyAll y k { σ with stack := l } ps = { σ.verifyAll y k ps with stack := l } := by
  induction ps generalizing σ with
  | nil => rfl
  | cons p ps ih => exact (congrArg (Search.verifyAll y k · ps) (verify_withStack y k σ l p)).trans (ih _)

/-- The tuples below an assignment are the tuples below its extensions, each with the sets still to choose from. -/
theorem flatMap_extend {cands Cs : List (List Group)} {p C : List Group} (h : cands.drop p.length = C :: Cs) :
    ((extend p C).flatMap fun q => tuplesBelow (cands.drop q.length) q) = tuplesBelow (C :: Cs) p := by
  have hCs : cands.drop (p.length + 1) = Cs := by rw [← List.tail_drop, h, List.tail_cons]
  rw [tuplesBelow]
  refine List.flatMap_congr fun q hq => ?_
  obtain ⟨v, -, -, rfl⟩ := mem_extend.mp hq
  rw [List.length_cons, hCs]

/-- An internal step leaves the end of the search where it was (R27, R75). -/
theorem finish_next (y : Word) (k : Wide) (σ : Search) : (σ.next y k).finish y k = σ.finish y k := by
  cases hstack : σ.stack with
  | nil => rw [next_of_stack_nil hstack]
  | cons p rest =>
    cases hcands : σ.cands.drop p.length with
    | nil =>
      rw [next_of_full hstack hcands]
      simp [Search.finish, hstack, hcands, verifyAll_append, verifyAll_withStack]
    | cons C Cs =>
      rw [next_of_partial hstack hcands]
      simp [Search.finish, hstack, hcands, flatMap_extend hcands]

/-! ### The candidates found, in order -/

theorem next_ascending {y : Word} {k : Wide} {σ : Search} (h : Ascending σ.found) : Ascending (σ.next y k).found := by
  cases hstack : σ.stack with
  | nil => rwa [next_of_stack_nil hstack]
  | cons p rest =>
    cases hcands : σ.cands.drop p.length with
    | nil => rw [next_of_full hstack hcands]; exact verifyAll_ascending _ h
    | cons C Cs => rwa [next_of_partial hstack hcands]

theorem finish_ascending {y : Word} {k : Wide} {σ : Search} (h : Ascending σ.found) : Ascending (σ.finish y k).found :=
  verifyAll_ascending _ h

theorem Search.Toward.start (y : Word) (k : Wide) : (Search.start y k).Toward y k := ⟨0, rfl⟩

theorem Search.Toward.next {y : Word} {k : Wide} {σ : Search} (h : σ.Toward y k) : (σ.next y k).Toward y k := by
  obtain ⟨n, rfl⟩ := h
  exact ⟨n + 1, (Function.iterate_succ_apply' _ _ _).symm⟩

theorem Search.Toward.ascending {y : Word} {k : Wide} {σ : Search} (h : σ.Toward y k) : Ascending σ.found := by
  obtain ⟨n, rfl⟩ := h
  induction n with
  | zero => exact List.Pairwise.nil
  | succ n ih => rw [Function.iterate_succ_apply']; exact next_ascending ih

/-! ### The machine's internal step -/

theorem searchAdvance_of_invert {s : State} (h : s.phase = .run .invert) :
    s.searchAdvance = { s with search := s.search.next s.lat.arg0 s.lat.key } := if_pos h

theorem searchAdvance_of_not_invert {s : State} (h : s.phase ≠ .run .invert) : s.searchAdvance = s := if_neg h

/-- INVERT's completion sees of the search only where it ends. -/
theorem exec_invert_withSearch {s : State} {σ : Search}
    (h : σ.finish s.lat.arg0 s.lat.key = s.search.finish s.lat.arg0 s.lat.key) :
    exec .invert { s with search := σ } = exec .invert s := by
  simp only [exec, execInvert, h]
  rfl

/-- Settles O29: a step that emits or extends leaves the end of the search, and INVERT's completion sees that end alone. -/
theorem searchStepsAreUnobservable : Obligations.SearchStepsAreUnobservable := by
  unfold Obligations.SearchStepsAreUnobservable
  refine ⟨finish_next, fun s rest hagenda => ?_⟩
  have hstep : step s = .next (State.searchAdvance { s with agenda := rest }) := step_cons hagenda
  by_cases hphase : s.phase = .run .invert
  · refine ⟨s.search.next s.lat.arg0 s.lat.key, ?_, fun h => absurd hphase h, ?_⟩
    · rw [hstep, searchAdvance_of_invert (s := { s with agenda := rest }) hphase]
    · exact exec_invert_withSearch (s := { s with agenda := rest }) (finish_next _ _ _)
  · refine ⟨s.search, ?_, fun _ => rfl, rfl⟩
    rw [hstep, searchAdvance_of_not_invert (s := { s with agenda := rest }) hphase]

end Sys2Proof.Machine
end

section
/-! PROOFS. The invariant (10_state.md R13, R19, R20, R25; 30_encoding.md R54; 60_exceptions.md R89): it holds right after reset, and
each operation an event can be keeps it. -/

namespace Sys2Proof.Machine

/-! ### The decoded command (R46 to R48) -/

theorem plain_eq_ok {sel : BitVec 3} {i j : Instr} (h : plain sel i = .ok j) : sel = 0 ∧ j = i := by
  unfold plain at h
  split at h
  · cases h; exact ⟨‹_›, rfl⟩
  · cases h

/-- A decoded command is well-formed and has the opcode and the selector of its word. -/
theorem decodeOp_eq_ok {op : BitVec 8} {sel : BitVec 3} {i : Instr} (h : decodeOp op sel = .ok i) :
    i.wellFormed = true ∧ op = i.op ∧ sel = i.sel := by
  unfold decodeOp at h
  split at h
  case h_10 hop | h_11 hop => -- SBOX, SBOXINV: every selector is legal
    cases h; exact ⟨rfl, BitVec.eq_of_toNat_eq hop, rfl⟩
  case h_12 hop => -- TBLRD: four tables
    split at h
    · cases h; exact ⟨decide_eq_true ‹_›, BitVec.eq_of_toNat_eq hop, rfl⟩
    · cases h
  case h_15 => cases h -- an unassigned opcode
  all_goals
    obtain ⟨hsel, rfl⟩ := plain_eq_ok h
    exact ⟨rfl, BitVec.eq_of_toNat_eq ‹_›, hsel⟩

theorem decode_eq_ok {c : Word} {i : Instr} (h : decode c = .ok i) :
    i.wellFormed = true ∧ opOf c = i.op ∧ selOf c = i.sel := by
  unfold decode at h
  split at h
  · exact decodeOp_eq_ok h
  · cases h

/-! ### ERRCODE and ERR -/

/-- ERRCODE is NONE exactly while no error is recorded: the invariant's clause on STATUS alone (R89, R90). -/
def Status.CodeOk (t : Status) : Prop := t.err = false ↔ t.errCode = .none

theorem Status.codeOk_record (t : Status) {e : ErrCode} (he : e ≠ .none) : (t.record e).CodeOk := by
  simp [Status.CodeOk, he]

theorem Status.CodeOk.clear {t : Status} (h : t.CodeOk) (v : Word) : (t.clear v).CodeOk := by
  rw [Status.CodeOk, Status.clear_err, Status.clear_errCode]
  cases v.getLsbD 3
  · simpa [Status.CodeOk] using h
  · simp

theorem Status.CodeOk.selfTest {t : Status} (h : t.CodeOk) (ok : Bool) : (t.selfTest ok).CodeOk := by
  cases ok
  · exact Status.codeOk_record _ (by simp)
  · exact h

theorem Status.CodeOk.searched {t : Status} (h : t.CodeOk) (violated overflows : Bool) :
    (t.searched violated overflows).CodeOk := by
  cases overflows
  · cases violated
    · exact h
    · exact Status.codeOk_record _ (by simp)
  · exact Status.codeOk_record _ (by simp)

theorem State.Inv.codeOk {s : State} (h : s.Inv) : s.status.CodeOk := h.errCode

/-! ### What each part of the invariant reads -/

theorem State.Running.congr {s t : State} {i : Instr} (h : s.Running i) (hlat : t.lat = s.lat := by rfl)
    (hsearch : t.search = s.search := by rfl) : t.Running i where
  legal := h.legal
  op := hlat ▸ h.op
  sel := hlat ▸ h.sel
  inRange := hlat ▸ h.inRange
  search := by rw [hlat, hsearch]; exact h.search

theorem State.CandidatesOk.congr {s t : State} (h : s.CandidatesOk) (hcnt : t.cnt = s.cnt := by rfl)
    (hcand : t.cand = s.cand := by rfl) : t.CandidatesOk where
  count := by rw [hcnt]; exact h.count
  ascending := by rw [hcnt, hcand]; exact h.ascending
  padded := by rw [hcnt, hcand]; exact h.padded

/-- The invariant reads BUSY, CFG_OK, CFG_FAULT and ERR with ERRCODE of STATUS, the phase, the latches, the search, CNT and CAND. -/
theorem State.Inv.congr {s t : State} (h : s.Inv) (hcode : t.status.CodeOk)
    (hbusy : t.status.busy = s.status.busy := by rfl) (hok : t.status.cfgOk = s.status.cfgOk := by rfl)
    (hfault : t.status.cfgFault = s.status.cfgFault := by rfl) (hphase : t.phase = s.phase := by rfl)
    (hlat : t.lat = s.lat := by rfl) (hsearch : t.search = s.search := by rfl) (hcnt : t.cnt = s.cnt := by rfl)
    (hcand : t.cand = s.cand := by rfl) : t.Inv where
  busy := by rw [hbusy, hphase]; exact h.busy
  exclusive := by rw [hok, hfault]; exact h.exclusive
  untested := by rw [hok, hfault, hphase]; exact h.untested
  errCode := hcode
  running i hi := (h.running i (hphase ▸ hi)).congr hlat hsearch
  candidates := h.candidates.congr hcnt hcand

/-- Once the reset self-test has completed, exactly one of CFG_OK and CFG_FAULT is 1 (R13). -/
theorem State.Inv.tested {s : State} (h : s.Inv) (hphase : s.phase ≠ .selftestReset) :
    s.status.cfgOk = !s.status.cfgFault := by
  have hexclusive := h.exclusive
  have htested := mt h.untested.mpr hphase
  cases hok : s.status.cfgOk <;> cases hfault : s.status.cfgFault <;> simp_all

theorem State.Inv.phase_eq_idle {s : State} (h : s.Inv) (hbusy : s.status.busy = false) : s.phase = .idle := by
  by_contra hphase
  simp [h.busy.mpr hphase] at hbusy

/-- The invariant of an idle engine. -/
theorem inv_of_idle {t : State} (hphase : t.phase = .idle) (hbusy : t.status.busy = false)
    (htested : t.status.cfgOk = !t.status.cfgFault) (hcode : t.status.CodeOk) (hcand : t.CandidatesOk) : t.Inv where
  busy := by simp [hphase, hbusy]
  exclusive := by simp [htested]
  untested := by simp [hphase, htested]
  errCode := hcode
  running i hi := by simp [hphase] at hi
  candidates := hcand

/-! ### Reset -/

theorem candidatesOk_of_empty {s : State} (hcnt : s.cnt = 0) (hcand : s.cand = Vector.replicate 16 0) :
    s.CandidatesOk where
  count := by simp [hcnt]
  ascending j k _ hk := by simp [hcnt] at hk
  padded j _ := by simp [hcand]

theorem inv_resetCore (s : State) : s.resetCore.Inv where
  busy := by simp [Status.reset]
  exclusive := by simp [Status.reset]
  untested := by simp [Status.reset]
  errCode := by simp [Status.reset]
  running i hi := by simp at hi
  candidates := candidatesOk_of_empty rfl rfl

/-- Settles O50: the machine right after reset is what a reset makes of itself. -/
theorem resetMeetsTheInvariant : Obligations.ResetMeetsTheInvariant := inv_resetCore State.reset

/-! ### The host's accesses -/

theorem inv_readWord {s : State} (h : s.Inv) (k : Nat) : (s.readWord k).Inv := by
  rw [readWord_frame]
  exact h.congr h.codeOk

theorem inv_statusWrite {s : State} (h : s.Inv) (v : Word) : (s.statusWrite v).Inv := h.congr (h.codeOk.clear v)

/-- A recorded error has a code, so recording one keeps the invariant (R89, R90). -/
theorem inv_reject {s : State} (h : s.Inv) {e : ErrCode} (he : e ≠ .none) : (s.reject e).Inv :=
  h.congr (s.status.codeOk_record he)

/-- What issue establishes of the running command (R26, R51, R54). -/
theorem running_issue {s : State} {c : Word} {i : Instr} (hacc : s.Accepts c i) : (s.issue i c).Running i := by
  obtain ⟨-, hdecode, -, hrange⟩ := hacc
  obtain ⟨hlegal, hop, hsel⟩ := decode_eq_ok hdecode
  refine ⟨hlegal, hop, hsel, hrange, ?_⟩
  rintro rfl
  exact Search.Toward.start _ _

theorem inv_issue {s : State} (h : s.Inv) {c : Word} {i : Instr} (hacc : s.Accepts c i) : (s.issue i c).Inv where
  busy := by simp
  exclusive := h.exclusive
  untested := by
    have htested := h.tested (by simp [h.phase_eq_idle hacc.1])
    simp [htested]
  errCode := h.errCode
  running j hj := by
    obtain rfl : i = j := by simpa using hj
    exact running_issue hacc
  candidates := h.candidates.congr

theorem inv_cmdWrite {s : State} (h : s.Inv) (c : Word) : (s.cmdWrite c).Inv := by
  obtain ⟨e, he, hreject⟩ | ⟨i, hacc, hissue⟩ := cmdWrite_cases s c
  · rw [hreject]
    exact inv_reject h (by rintro rfl; simp at he)
  · rw [hissue]
    exact inv_issue h hacc

theorem inv_writeWordAt {s : State} (h : s.Inv) (k : Nat) (v : Word) : (s.writeWordAt k v).Inv := by
  obtain hw | hw | hw | hw | hw | hw | hw := writeWordAt_cases s k v <;> rw [hw]
  · exact h
  · exact inv_cmdWrite h v
  · exact inv_statusWrite h v
  all_goals exact h.congr h.codeOk

/-! ### The engine -/

theorem inv_searchAdvance {s : State} (h : s.Inv) : s.searchAdvance.Inv := by
  by_cases hphase : s.phase = .run .invert
  · rw [searchAdvance_of_invert hphase]
    refine ⟨h.busy, h.exclusive, h.untested, h.errCode, fun i hi => ?_, h.candidates.congr⟩
    have hrun := h.running i hi
    exact ⟨hrun.legal, hrun.op, hrun.sel, hrun.inRange, fun hinvert => (hrun.search hinvert).next⟩
  · rwa [searchAdvance_of_not_invert hphase]

theorem inv_selfTestDone {s : State} (h : s.Inv) (ok : Bool) : (s.selfTestDone ok).Inv := by
  obtain ⟨hok, hfault, -⟩ := Status.selfTest_fields ok s.status
  exact inv_of_idle rfl rfl (by simp [hok, hfault]) (h.codeOk.selfTest ok) h.candidates.congr

theorem toNat_cnt_writeSearch (σ : Search) (s : State) : (s.writeSearch σ).cnt.toNat = min σ.found.length 16 := by
  rw [State.writeSearch_cnt, BitVec.toNat_ofNat, storedCount]
  omega

theorem getElem_cand_writeSearch (σ : Search) (s : State) (j : Fin 16) :
    (s.writeSearch σ).cand[j] = σ.found.getD j.val 0 := by
  rw [State.writeSearch_cand, candBuffer]
  simp

/-- INVERT stores the first sixteen candidates of an ascending set, then zeros (R20, R80). -/
theorem candidatesOk_writeSearch {σ : Search} (h : Ascending σ.found) (s : State) : (s.writeSearch σ).CandidatesOk where
  count := by rw [toNat_cnt_writeSearch]; omega
  ascending j k hjk hk := by
    rw [toNat_cnt_writeSearch] at hk
    have hlt : k.val < σ.found.length := by omega
    have hlt' : j.val < σ.found.length := lt_trans hjk hlt
    rw [getElem_cand_writeSearch, getElem_cand_writeSearch, List.getD_eq_getElem _ _ hlt, List.getD_eq_getElem _ _ hlt']
    exact List.pairwise_iff_getElem.mp h j k hlt' hlt hjk
  padded j hj := by
    rw [toNat_cnt_writeSearch] at hj
    rw [getElem_cand_writeSearch, List.getD_eq_default _ _ (by omega)]

/-- A completion step keeps the invariant: each of its four shapes leaves an idle engine (R55). -/
theorem inv_exec {s t : State} (h : s.Inv) {i : Instr} (hphase : s.phase = .run i) (hexec : exec i s = .next t) : t.Inv := by
  have htested := h.tested (by simp [hphase])
  obtain ⟨-, rfl⟩ | ⟨-, rfl⟩ | ⟨rfl, rfl⟩ | ⟨-, -, -, r0, r1, rfl⟩ := exec_cases hexec
  · exact inv_of_idle rfl rfl htested h.codeOk h.candidates.congr
  · exact inv_selfTestDone h _
  · have hfound := ((h.running .invert hphase).search rfl).ascending
    obtain ⟨-, -, -, -, -, hok, hfault⟩ := Status.searched_fields
      (s.search.finish s.lat.arg0 s.lat.key).violated (s.search.finish s.lat.arg0 s.lat.key).overflows s.status
    exact inv_of_idle rfl rfl (by simp [hok, hfault, htested]) (h.codeOk.searched _ _)
      (candidatesOk_writeSearch (finish_ascending hfound) s).congr
  · exact inv_of_idle rfl rfl htested h.codeOk h.candidates.congr

theorem inv_engineComplete {s t : State} (h : s.Inv) (hstep : s.engineComplete = .next t) : t.Inv := by
  obtain ⟨-, rfl⟩ | ⟨i, hphase, hexec⟩ | ⟨-, rfl⟩ := engineComplete_cases hstep
  · exact h
  · exact inv_exec h hphase hexec
  · exact inv_selfTestDone h _

theorem inv_handle {e : Event} {s t : State} (h : s.Inv) (hstep : State.handle e s = .next t) : t.Inv := by
  obtain ⟨k, v, rfl⟩ | ⟨k, rfl⟩ | hcomplete | ⟨v, hcomplete⟩ | rfl | rfl := handle_cases hstep
  · exact inv_writeWordAt h k v
  · exact inv_readWord h k
  · exact inv_engineComplete h hcomplete
  · exact inv_engineComplete (inv_statusWrite h v) hcomplete
  · exact inv_searchAdvance h
  · exact inv_resetCore s

/-- Settles O51: a step is a completion or one event of the agenda, and each keeps the invariant. -/
theorem stepKeepsTheInvariant : Obligations.StepKeepsTheInvariant := by
  unfold Obligations.StepKeepsTheInvariant
  intro s t h hstep
  obtain ⟨-, hcomplete⟩ | ⟨e, rest, -, hevent⟩ := step_cases hstep
  · exact inv_engineComplete h hcomplete
  · exact inv_handle (s := { s with agenda := rest }) (h.congr h.codeOk) hevent

end Sys2Proof.Machine
end

section
/-! PROOFS. What changes the result registers and what ends a run (10_state.md R19, R20, R25; 60_exceptions.md R91;
70_reset_and_hazards.md R106, R109). -/

namespace Sys2Proof.Machine

/-- RES0, RES1, CNT and CAND, the registers only the engine writes. -/
def State.resultRegs (s : State) : Word × BitVec 16 × BitVec 5 × Vector Word 16 := (s.res0, s.res1, s.cnt, s.cand)

theorem resultRegs_eq_iff {s t : State} : t.resultRegs = s.resultRegs ↔
    t.res0 = s.res0 ∧ t.res1 = s.res1 ∧ t.cnt = s.cnt ∧ t.cand = s.cand := by
  simp [State.resultRegs]

/-- The run in progress: its phase, its latched operands and BUSY. -/
def State.runRegs (s : State) : Phase × Latched × Bool := (s.phase, s.lat, s.status.busy)

theorem runRegs_eq_iff {s t : State} : t.runRegs = s.runRegs ↔
    t.phase = s.phase ∧ t.lat = s.lat ∧ t.status.busy = s.status.busy := by
  simp [State.runRegs]

/-! ### The host's accesses and the internal search step -/

/-- A CMD write while BUSY = 1 is rejected before anything else is looked at (R54, R104). -/
theorem cmdWrite_of_busy {s : State} (h : s.status.busy = true) (c : Word) : s.cmdWrite c = s.reject .busyReject := if_pos h

theorem cmdWrite_resultRegs (s : State) (c : Word) : (s.cmdWrite c).resultRegs = s.resultRegs := by
  obtain ⟨e, -, hreject⟩ | ⟨i, -, hissue⟩ := cmdWrite_cases s c
  · rw [hreject]; rfl
  · rw [hissue]; rfl

theorem writeWordAt_resultRegs (s : State) (k : Nat) (v : Word) : (s.writeWordAt k v).resultRegs = s.resultRegs := by
  obtain hw | hw | hw | hw | hw | hw | hw := writeWordAt_cases s k v <;> rw [hw]
  case inr.inl => exact cmdWrite_resultRegs s v
  all_goals rfl

theorem writeWordAt_runRegs {s : State} (h : s.status.busy = true) (k : Nat) (v : Word) :
    (s.writeWordAt k v).runRegs = s.runRegs := by
  obtain hw | hw | hw | hw | hw | hw | hw := writeWordAt_cases s k v <;> rw [hw]
  case inr.inl => rw [cmdWrite_of_busy h]; rfl
  all_goals rfl

theorem readWord_resultRegs (s : State) (k : Nat) : (s.readWord k).resultRegs = s.resultRegs := by
  rw [readWord_frame]; rfl

theorem readWord_runRegs (s : State) (k : Nat) : (s.readWord k).runRegs = s.runRegs := by
  rw [readWord_frame]; rfl

theorem searchAdvance_resultRegs (s : State) : s.searchAdvance.resultRegs = s.resultRegs := by
  unfold State.searchAdvance; split <;> rfl

theorem searchAdvance_runRegs (s : State) : s.searchAdvance.runRegs = s.runRegs := by
  unfold State.searchAdvance; split <;> rfl

/-- An event that is neither a completion nor a reset changes no result register, and nothing of a run in progress. -/
theorem handle_keeps {e : Event} {s t : State} (hcomplete : e ≠ .complete) (hclear : ∀ v, e ≠ .clearAtCompletion v)
    (hreset : e ≠ .reset) (h : State.handle e s = .next t) :
    t.resultRegs = s.resultRegs ∧ (s.status.busy = true → t.runRegs = s.runRegs) := by
  cases e with
  | write a n v =>
    obtain ⟨k, rfl⟩ := hostWrite_next h
    exact ⟨writeWordAt_resultRegs s k v, fun hbusy => writeWordAt_runRegs hbusy k v⟩
  | read a n =>
    obtain ⟨k, rfl⟩ := hostRead_next h
    exact ⟨readWord_resultRegs s k, fun _ => readWord_runRegs s k⟩
  | searchStep =>
    cases h
    exact ⟨searchAdvance_resultRegs s, fun _ => searchAdvance_runRegs s⟩
  | complete => exact absurd rfl hcomplete
  | clearAtCompletion v => exact absurd rfl (hclear v)
  | reset => exact absurd rfl hreset

/-- Settles O48: the events left are accesses and internal search steps, and an access to a busy engine issues nothing. -/
theorem onlyCompletionOrResetEndsARun : Obligations.OnlyCompletionOrResetEndsARun := by
  unfold Obligations.OnlyCompletionOrResetEndsARun
  intro s t e rest hagenda _ hbusy hcomplete hclear hreset hstep
  obtain ⟨hresults, hrun⟩ := handle_keeps hcomplete hclear hreset ((step_cons hagenda).symm.trans hstep)
  obtain ⟨hres0, hres1, hcnt, hcand⟩ := resultRegs_eq_iff.mp hresults
  obtain ⟨hphase, hlat, hkept⟩ := runRegs_eq_iff.mp (hrun hbusy)
  exact ⟨hphase, hlat, hkept.trans hbusy, hres0, hres1, hcnt, hcand⟩

/-! ### Completions -/

/-- From s to t a command that has a result ends, any but NOP and SELFTEST; CNT and CAND change for INVERT alone. -/
def State.EndsResultCommand (s t : State) : Prop :=
  ∃ i, s.phase = .run i ∧ i ≠ .nop ∧ i ≠ .selftest ∧ t.phase = .idle ∧ (i = .invert ∨ (t.cnt = s.cnt ∧ t.cand = s.cand))

theorem engineComplete_resultRegs {s t : State} (h : s.engineComplete = .next t) :
    t.resultRegs = s.resultRegs ∨ s.EndsResultCommand t := by
  obtain ⟨-, rfl⟩ | ⟨i, hphase, hexec⟩ | ⟨-, rfl⟩ := engineComplete_cases h
  · exact .inl rfl
  · obtain ⟨-, rfl⟩ | ⟨-, rfl⟩ | ⟨rfl, rfl⟩ | ⟨hnop, hselftest, -, r0, r1, rfl⟩ := exec_cases hexec
    · exact .inl rfl
    · exact .inl rfl
    · exact .inr ⟨.invert, hphase, by simp, by simp, rfl, .inl rfl⟩
    · exact .inr ⟨i, hphase, hnop, hselftest, rfl, .inr ⟨rfl, rfl⟩⟩
  · exact .inl rfl

/-- What a step does to the result registers: nothing, unless it ends a command with a result or is a reset. -/
theorem step_resultRegs {s t : State} (h : step s = .next t) :
    t.resultRegs = s.resultRegs ∨ s.EndsResultCommand t ∨ ∃ rest, s.agenda = .reset :: rest := by
  obtain ⟨-, hcomplete⟩ | ⟨e, rest, hagenda, hevent⟩ := step_cases h
  · exact (engineComplete_resultRegs hcomplete).imp_right .inl
  · cases e
    case complete => exact (engineComplete_resultRegs (s := { s with agenda := rest }) hevent).imp_right .inl
    case clearAtCompletion v =>
      exact (engineComplete_resultRegs (s := State.statusWrite v { s with agenda := rest }) hevent).imp_right .inl
    case reset => exact .inr (.inr ⟨rest, hagenda⟩)
    all_goals exact .inl (handle_keeps (by simp) (by simp) (by simp) hevent).1

/-- Settles O49: a step that changes a result register ends a command with a result or is a reset; CNT and CAND are INVERT's. -/
theorem resultsChangeOnlyAtCompletions : Obligations.ResultsChangeOnlyAtCompletions := by
  unfold Obligations.ResultsChangeOnlyAtCompletions
  intro s t hstep
  obtain hsame | ⟨i, hphase, hnop, hselftest, hidle, hcount⟩ | hreset := step_resultRegs hstep
  · obtain ⟨hres0, hres1, hcnt, hcand⟩ := resultRegs_eq_iff.mp hsame
    exact ⟨fun h => by simp [hcnt, hcand] at h, fun h => by simp [hres0, hres1] at h⟩
  · refine ⟨fun h => ?_, fun _ => .inl ⟨i, hphase, hnop, hselftest, hidle⟩⟩
    obtain rfl | ⟨hcnt, hcand⟩ := hcount
    · exact .inl ⟨hphase, hidle⟩
    · simp [hcnt, hcand] at h
  · exact ⟨fun _ => .inr hreset, fun _ => .inr hreset⟩

/-! ### The operand registers -/

/-- Settles O47: each command's completion computes from the latches, and writes none of the four operand registers. -/
theorem operandWritesMissTheRunningCommand : Obligations.OperandWritesMissTheRunningCommand := by
  unfold Obligations.OperandWritesMissTheRunningCommand
  intro i s a0 a1 k0 k1
  cases i
  case tblrd t =>
    simp only [exec, execTblrd]
    cases tableEntry t s.lat.arg0.toNat <;> rfl
  all_goals rfl

end Sys2Proof.Machine
end

section
/-! PROOFS. STATUS and the reserved offsets of the window (10_state.md R13, R14, R21; 60_exceptions.md R89, R90, R93). -/

namespace Sys2Proof.Machine

/-! ### STATUS as a word -/

/-- STATUS bit by bit: six flags, two reserved bits, ERRCODE, and zeros above (R13). -/
theorem getLsbD_statusWord (t : Status) (b : Nat) : t.word.getLsbD b =
    if b < 8 then [t.busy, t.cfgOk, t.cfgFault, t.err, t.sound, t.ovf, false, false].getD b false
    else t.errCode.byte.getLsbD (b - 8) := by
  unfold Status.word
  iterate 8 rw [BitVec.getLsbD_append]
  by_cases hb : b < 8
  · interval_cases b <;> simp
  · obtain ⟨n, rfl⟩ : ∃ n, b = n + 8 := ⟨b - 8, by omega⟩
    simpa using BitVec.lt_of_getLsbD

theorem getLsbD_statusWord_of_le (t : Status) {b : Nat} (hb : 16 ≤ b) : t.word.getLsbD b = false := by
  rw [getLsbD_statusWord, if_neg (by omega), BitVec.getLsbD_of_ge _ _ (by omega)]

theorem errCode_statusWord (t : Status) : t.word.extractLsb' 8 8 = t.errCode.byte := by
  refine BitVec.eq_of_getLsbD_eq fun b hb => ?_
  rw [BitVec.getLsbD_extractLsb', getLsbD_statusWord, if_neg (by omega), Nat.add_sub_cancel_left, decide_eq_true hb,
    Bool.true_and]

theorem reserved_statusWord (t : Status) : t.word.extractLsb' 6 2 = 0 := by
  refine BitVec.eq_of_getLsbD_eq fun b hb => ?_
  rw [BitVec.getLsbD_extractLsb', getLsbD_statusWord]
  interval_cases b <;> rfl

/-- Settles O40: the bits of the word one by one, and the codes as the definition gives them. -/
theorem statusBitsReadAsLaidOut : Obligations.StatusBitsReadAsLaidOut := by
  unfold Obligations.StatusBitsReadAsLaidOut
  refine ⟨fun t => ?_, errCode_statusWord, rfl, rfl, rfl, rfl, rfl, rfl, rfl, rfl⟩
  refine ⟨?_, ?_, ?_, ?_, ?_, ?_, ?_, ?_, fun b hb => getLsbD_statusWord_of_le t hb⟩ <;> exact getLsbD_statusWord t _

/-! ### A write to STATUS -/

/-- The clearing of ERR with ERRCODE, SOUND and OVF, by the bit of the written word (R14). -/
theorem Status.clear_fields (v : Word) (t : Status) :
    (v.getLsbD 3 = true → (t.clear v).err = false ∧ (t.clear v).errCode = .none) ∧
      (v.getLsbD 3 = false → (t.clear v).err = t.err ∧ (t.clear v).errCode = t.errCode) ∧
      (v.getLsbD 4 = true → (t.clear v).sound = false) ∧ (v.getLsbD 4 = false → (t.clear v).sound = t.sound) ∧
      (v.getLsbD 5 = true → (t.clear v).ovf = false) ∧ (v.getLsbD 5 = false → (t.clear v).ovf = t.ovf) := by
  simp only [Status.clear_err, Status.clear_errCode, Status.clear_sound, Status.clear_ovf]
  generalize v.getLsbD 3 = clearErr, v.getLsbD 4 = clearSound, v.getLsbD 5 = clearOvf
  refine ⟨?_, ?_, ?_, ?_, ?_, ?_⟩ <;> rintro rfl <;> simp

/-- What INVERT records where a violation or an overflow occurred, whatever the flags were (R78, R79, R93). -/
theorem Status.searched_records (violated overflows : Bool) (t : Status) :
    (overflows = true → (t.searched violated overflows).ovf = true ∧ (t.searched violated overflows).err = true ∧
      (t.searched violated overflows).errCode = .overflow) ∧
    (violated = true → (t.searched violated overflows).sound = true ∧ (t.searched violated overflows).err = true) ∧
    (overflows = false → violated = true → (t.searched violated overflows).errCode = .soundness) := by
  obtain ⟨hsound, hovf, herr, hcode, -, -, -⟩ := Status.searched_fields violated overflows t
  rw [hsound, hovf, herr, hcode]
  refine ⟨?_, ?_, ?_⟩
  · rintro rfl; simp
  · rintro rfl; simp
  · rintro rfl rfl; rfl

/-- A STATUS write in the event of INVERT's completion: the search's results are recorded over the cleared flags (log 10). -/
theorem step_clearAtCompletion_invert {s : State} {v : Word} {rest : List Event}
    (hagenda : s.agenda = .clearAtCompletion v :: rest) (hphase : s.phase = .run .invert) :
    step s = .next (State.completed (State.writeSearch (s.search.finish s.lat.arg0 s.lat.key)
      (State.statusWrite v { s with agenda := rest }))) := by
  rw [step_cons hagenda]
  simp only [State.handle, State.engineComplete, State.statusWrite_phase, hphase]
  rfl

/-- Settles O37: the write is the clearing of STATUS alone, and INVERT's completion sets its flags whatever was cleared. -/
theorem statusWriteClearsStickyBits : Obligations.StatusWriteClearsStickyBits := by
  unfold Obligations.StatusWriteClearsStickyBits
  constructor
  · intro s v rest hagenda
    obtain ⟨herr, herr', hsound, hsound', hovf, hovf'⟩ := Status.clear_fields v s.status
    exact ⟨_, step_write (k := 1) (by decide) hagenda, rfl, herr, herr', hsound, hsound', hovf, hovf', rfl, rfl, rfl⟩
  · intro s v rest hagenda hphase σ
    obtain ⟨hovf, hsound, hcode⟩ := Status.searched_records σ.violated σ.overflows (s.status.clear v)
    exact ⟨_, step_clearAtCompletion_invert hagenda hphase, fun hlen => hovf (decide_eq_true hlen), hsound,
      fun hlen => hcode (decide_eq_false (not_lt.mpr hlen))⟩

/-! ### Reserved offsets and bits -/

/-- The offsets 0x24..0x3C and 0x80..0xFC name no register (R21). -/
theorem regAt_reserved {k : Nat} (h : (9 ≤ k ∧ k < 16) ∨ 32 ≤ k) : regAt k = none := by
  unfold regAt
  split <;> simp <;> omega

/-- A field of w bits that a read widens with zeros reads 0 above them. -/
theorem getLsbD_setWidth_of_le {w : Nat} (x : BitVec w) (v : Nat) {b : Nat} (hb : w ≤ b) :
    (x.setWidth v).getLsbD b = false := by
  rw [BitVec.getLsbD_setWidth, BitVec.getLsbD_of_ge x b hb, Bool.and_false]

/-- Settles O41: no register stands at a reserved offset, and each register with reserved bits is a narrower field. -/
theorem reservedOffsetsAndBitsReadZero : Obligations.ReservedOffsetsAndBitsReadZero := by
  unfold Obligations.ReservedOffsetsAndBitsReadZero
  refine ⟨fun s o rest hword hrange => ?_, fun s b hb => ?_, fun s => ?_⟩
  · obtain ⟨k, rfl⟩ : ∃ k, o = 4 * k := ⟨o / 4, by omega⟩
    have hreg : regAt k = none := regAt_reserved (by omega)
    have hk : k < 64 := by omega
    refine ⟨fun hagenda => ?_, fun v hagenda => ?_⟩
    · rw [step_read hk hagenda, State.readWord, hreg]
    · rw [step_write hk hagenda, State.writeWordAt, hreg]
  · exact ⟨getLsbD_statusWord_of_le _ hb, getLsbD_setWidth_of_le _ _ hb, getLsbD_setWidth_of_le _ _ hb,
      getLsbD_setWidth_of_le _ _ (by omega)⟩
  · exact ⟨reserved_statusWord _, fun b hb => getLsbD_setWidth_of_le _ _ hb⟩

end Sys2Proof.Machine
end

section
/-! PROOFS. P and P⁻¹ undo each other, and E⁻¹ undoes E (20_memory.md R41 to R43). -/

namespace Sys2Proof.Machine

/-- The bit of a half-block that P takes for bit j of its result (R42). -/
def permuteSource (j : Nat) : Nat := 32 - (rom.p.getD (31 - j) 0).toNat

/-- The bit of a half-block that P⁻¹ takes for bit j of its result (R43). -/
def unpermuteSource (j : Nat) : Nat := 32 - (rom.pinv.getD (31 - j) 0).toNat

theorem getLsbD_permute_source (s : Word) {j : Nat} (hj : j < 32) :
    (permute s).getLsbD j = s.getLsbD (permuteSource j) := getLsbD_permute s hj

theorem getLsbD_unpermute_source (y : Word) {j : Nat} (hj : j < 32) :
    (unpermute y).getLsbD j = y.getLsbD (unpermuteSource j) := getLsbD_unpermute y hj

/-! ### What the ROM tables say of the sources -/

theorem permuteSource_lt : ∀ j < 32, permuteSource j < 32 := by decide

theorem unpermuteSource_lt : ∀ j < 32, unpermuteSource j < 32 := by decide

theorem permuteSource_unpermuteSource : ∀ j < 32, permuteSource (unpermuteSource j) = j := by decide

theorem unpermuteSource_permuteSource : ∀ j < 32, unpermuteSource (permuteSource j) = j := by decide

/-- ROM_PINV[ROM_P[k + 1]] = k + 1 (R43). -/
theorem entry_romPinv_entry_romP : ∀ k < 32, ((entry romP (k + 1)).bind fun v => entry romPinv v.toNat) =
    some (BitVec.ofNat 6 (k + 1)) := by decide

/-! ### P and P⁻¹ -/

theorem unpermute_permute (s : Word) : unpermute (permute s) = s := by
  refine BitVec.eq_of_getLsbD_eq fun j hj => ?_
  rw [getLsbD_unpermute_source _ hj, getLsbD_permute_source s (unpermuteSource_lt j hj),
    permuteSource_unpermuteSource j hj]

theorem permute_unpermute (y : Word) : permute (unpermute y) = y := by
  refine BitVec.eq_of_getLsbD_eq fun j hj => ?_
  rw [getLsbD_permute_source _ hj, getLsbD_unpermute_source y (permuteSource_lt j hj),
    unpermuteSource_permuteSource j hj]

/-- Settles O17: each permutation takes a bit from where the other took it, and so do the two tables' entries. -/
theorem permutationsUndoEachOther : Obligations.PermutationsUndoEachOther := by
  unfold Obligations.PermutationsUndoEachOther
  refine ⟨unpermute_permute, permute_unpermute, fun k hk1 hk32 => ?_⟩
  obtain ⟨n, rfl⟩ := Nat.exists_eq_add_of_le' hk1
  obtain ⟨v, hv, hw⟩ := Option.bind_eq_some_iff.mp (entry_romPinv_entry_romP n (by omega))
  exact ⟨v, _, hv, hw, Nat.mod_eq_of_lt (by omega)⟩

/-- Settles O18: E⁻¹ takes each bit from a place where E put it. -/
theorem unexpandUndoesExpand : Obligations.UnexpandUndoesExpand := unexpand_expand

end Sys2Proof.Machine
end

section
/-! PROOFS. The host's accesses of the register window (20_memory.md R29 to R33). -/

namespace Sys2Proof.Machine

/-! ### Accesses that stop the run -/

/-- A read whose access stops is the same stop, as a step. -/
theorem step_read_fault {s : State} {a n : Nat} {rest : List Event} {f : Fault} (haccess : s.access a n = .error f)
    (hagenda : s.agenda = .read a n :: rest) : step s = .fault f := by
  have haccess' : State.access a n { s with agenda := rest } = .error f := haccess
  rw [step_cons hagenda, State.handle, State.hostRead, haccess']

/-- A write whose access stops is the same stop, as a step. -/
theorem step_write_fault {s : State} {a n : Nat} {v : Word} {rest : List Event} {f : Fault}
    (haccess : s.access a n = .error f) (hagenda : s.agenda = .write a n v :: rest) : step s = .fault f := by
  have haccess' : State.access a n { s with agenda := rest } = .error f := haccess
  rw [step_cons hagenda, State.handle, State.hostWrite, haccess']

/-- Settles O43: such an access is BadAccess, and a read or a write stops with it. -/
theorem otherAccessesAreBad : Obligations.OtherAccessesAreBad := by
  unfold Obligations.OtherAccessesAreBad
  intro s o n rest hoffset hbad
  have haccess := access_bad s hoffset hbad
  exact ⟨step_read_fault haccess, fun _ => step_write_fault haccess⟩

/-- Settles O44: such an access reaches no offset of the window, and a read or a write stops with it. -/
theorem accessOutsideTheWindowStops : Obligations.AccessOutsideTheWindowStops := by
  unfold Obligations.AccessOutsideTheWindowStops
  intro s a n rest hrange
  have haccess : s.access a n = .error .outsideWindow := access_outside s (by omega)
  exact ⟨step_read_fault haccess, fun _ => step_write_fault haccess⟩

/-! ### Writes -/

theorem regAt_cand : ∀ j : Fin 16, regAt (16 + j.val) = some (.cand j) := by decide

/-- The result registers and the reserved offsets ignore a write (R21, R33). -/
theorem writeWordAt_of_readOnly {k : Nat} (hk : 6 ≤ k) (v : Word) (s : State) : s.writeWordAt k v = s := by
  by_cases hreserved : (9 ≤ k ∧ k < 16) ∨ 32 ≤ k
  · rw [State.writeWordAt, regAt_reserved hreserved]
  by_cases hcand : 16 ≤ k
  · obtain ⟨j, rfl⟩ : ∃ j : Fin 16, k = 16 + j.val := ⟨⟨k - 16, by omega⟩, (Nat.add_sub_cancel' hcand).symm⟩
    rw [State.writeWordAt, regAt_cand]
  · obtain rfl | rfl | rfl : k = 6 ∨ k = 7 ∨ k = 8 := by omega
    all_goals rfl

/-- Settles O38: the step is the write of word k, and each of the words 0 to 5 has its own effect. -/
theorem hostWriteEffects : Obligations.HostWriteEffects := by
  unfold Obligations.HostWriteEffects
  intro s k v rest hk hagenda
  rw [step_write hk hagenda]
  refine ⟨?_, ?_, ?_, ?_, ?_, ?_, fun hreadOnly => ?_⟩
  case refine_7 => rw [writeWordAt_of_readOnly hreadOnly]
  all_goals rintro rfl; rfl

/-! ### Reads -/

/-- A read at a reserved offset returns 0 (R21). -/
theorem readWord_of_reserved {k : Nat} {s : State} (h : regAt k = none) : s.readWord k = { s with rdata := 0 } := by
  simp [State.readWord, h]

/-- A read of an operand or control register, or of any register of an idle engine, returns its value (R32). -/
theorem readWord_of_reg {k : Nat} {r : Reg} {s : State} (h : regAt k = some r)
    (hready : r.isResult = false ∨ s.status.busy = false) : s.readWord k = { s with rdata := s.regValue r } := by
  have hnotFree : (r.isResult && s.status.busy) = false := by
    obtain h | h := hready <;> simp [h]
  simp [State.readWord, h, hnotFree]

theorem readWord_rdata {k : Nat} {r : Reg} {s : State} (h : regAt k = some r)
    (hready : r.isResult = false ∨ s.status.busy = false) : (s.readWord k).rdata = s.regValue r := by
  rw [readWord_of_reg h hready]

/-- Settles O39: a read changes rdata and draws alone, and returns 0 at a reserved offset and the register's value elsewhere. -/
theorem readsReturnTheRegisters : Obligations.ReadsReturnTheRegisters := by
  unfold Obligations.ReadsReturnTheRegisters
  intro s k rest hk hagenda
  refine ⟨_, step_read hk hagenda, readWord_frame _ k, ?_, ?_, ?_, ?_, ?_, ?_, fun hidle => ⟨?_, ?_, ?_, ?_⟩⟩
  case refine_1 =>
    rintro (rfl | hreserved)
    · exact readWord_rdata (r := .cmd) rfl (.inl rfl)
    · rw [readWord_of_reserved (regAt_reserved hreserved)]
  case refine_2 => rintro rfl; exact readWord_rdata (r := .status) rfl (.inl rfl)
  case refine_3 => rintro rfl; exact readWord_rdata (r := .arg0) rfl (.inl rfl)
  case refine_4 => rintro rfl; exact readWord_rdata (r := .arg1) rfl (.inl rfl)
  case refine_5 => rintro rfl; exact readWord_rdata (r := .key0) rfl (.inl rfl)
  case refine_6 => rintro rfl; exact readWord_rdata (r := .key1) rfl (.inl rfl)
  case refine_7 => rintro rfl; exact readWord_rdata (r := .res0) rfl (.inr hidle)
  case refine_8 => rintro rfl; exact readWord_rdata (r := .res1) rfl (.inr hidle)
  case refine_9 => rintro rfl; exact readWord_rdata (r := .cnt) rfl (.inr hidle)
  case refine_10 => rintro j rfl; exact readWord_rdata (regAt_cand j) (.inr hidle)

end Sys2Proof.Machine
end

section
/-! PROOFS. The finished search holds exactly the target's preimages (43_inverter.md R72 to R77): the groups of E(x) for a preimage x
are a tuple that the search emits, and step 5 keeps no other candidate. -/

namespace Sys2Proof.Machine

/-! ### The S-boxes and the substitution -/

/-- The inverse S-box entry of an output lists every input that has it (R45). -/
theorem mem_sinv_sbox : ∀ i < 8, ∀ g : Group, g ∈ sinv i (sbox i g) := by decide +kernel

/-- Nibble i of S(w) is S-box i of group i of w (R64). -/
theorem nib_subst (w : Wide) {i : Nat} (hi : i < 8) : nib (subst w) i = sbox i (group w i) := by
  unfold nib subst
  interval_cases i
  all_goals repeat rw [BitVec.extractLsb'_append_eq_of_le (by decide)]
  · exact BitVec.extractLsb'_eq_self -- group 0, the leftmost of the concatenation
  all_goals exact BitVec.extractLsb'_append_eq_right

/-- Group i of E(x) for a preimage x is in candidate set i of the target (R73, R74). -/
theorem group_expand_mem_candidateSet {y x : Word} {k : Wide} (hx : roundK k x = y) {i : Nat} (hi : i < 8) :
    group (expand x) i ∈ candidateSet y k i := by
  have hnib : nib (unpermute y) i = sbox i (group (expand x) i ^^^ group k i) := by
    rw [← hx, roundK, unpermute_permute, nib_subst _ hi, group_xor]
  refine List.mem_map.mpr ⟨group (expand x) i ^^^ group k i, ?_, by simp⟩
  rw [hnib]
  exact mem_sinv_sbox i hi _

/-! ### The groups of a 48-bit value as a tuple of the search -/

/-- The first n groups of a 48-bit value as the search holds a partial assignment: newest group first. -/
def groupStack (w : Wide) : Nat → List Group
  | 0 => []
  | n + 1 => group w n :: groupStack w n

theorem reverse_groupStack (w : Wide) (n : Nat) : (groupStack w n).reverse = (List.range n).map (group w) := by
  induction n with
  | zero => rfl
  | succ n ih => rw [groupStack, List.reverse_cons, ih, List.range_succ, List.map_append, List.map_singleton]

/-- The first n groups assembled are the value's top 6·n bits (R5). -/
theorem assemble_groups (w : Wide) {n : Nat} (hn : n ≤ 8) :
    assemble ((List.range n).map (group w)) = w >>> (6 * (8 - n)) := by
  induction n with
  | zero => simpa [assemble] using (BitVec.ushiftRight_eq_zero le_rfl).symm
  | succ n ih =>
    have hfold : assemble ((List.range (n + 1)).map (group w)) =
        (assemble ((List.range n).map (group w)) <<< 6) ||| (group w n).setWidth 48 := by
      simp [assemble, List.range_succ]
    rw [hfold, ih (by omega)]
    refine BitVec.eq_of_getLsbD_eq fun j hj => ?_
    rw [BitVec.getLsbD_or, BitVec.getLsbD_shiftLeft, BitVec.getLsbD_ushiftRight, BitVec.getLsbD_ushiftRight,
      BitVec.getLsbD_setWidth]
    by_cases hlow : j < 6
    · rw [getLsbD_group w n hlow]
      simp [hlow, hj]
    · rw [BitVec.getLsbD_of_ge (group w n) j (by omega)]
      simp [hlow, hj, show 6 * (8 - n) + (j - 6) = 6 * (8 - (n + 1)) + j by omega]

/-- The candidate of the groups of E(x) is x (R76). -/
theorem candidateOf_groupStack (x : Word) : candidateOf (groupStack (expand x) 8) = x := by
  rw [candidateOf, reverse_groupStack, assemble_groups _ le_rfl]
  simpa using unexpand_expand x

/-- In a consistent value each group fits the groups before it, so it may extend them. -/
theorem fits_groupStack {w : Wide} (hw : consistent w = true) {n : Nat} (hn : n < 8) :
    fits (groupStack w n) (group w n) = true := by
  cases n with
  | zero => rfl
  | succ n =>
    have hadj := (consistent_iff w).mp hw n (by omega)
    rw [adj, Nat.mod_eq_of_lt hn] at hadj
    exact hadj

theorem wraps_groupStack {w : Wide} (hw : consistent w = true) : wraps (groupStack w 8) = true :=
  (consistent_iff w).mp hw 7 (by decide)

/-- A consistent value whose last m groups are in the sets still to choose from is emitted below its first n groups. -/
theorem groupStack_mem_tuplesBelow {w : Wide} (hw : consistent w = true) {C : Nat → List Group}
    (hC : ∀ i < 8, group w i ∈ C i) {m n : Nat} (hmn : n + m = 8) :
    groupStack w 8 ∈ tuplesBelow ((List.range' n m).map C) (groupStack w n) := by
  induction m generalizing n with
  | zero =>
    obtain rfl : n = 8 := hmn
    rw [List.range'_zero, List.map_nil, tuplesBelow_nil, if_pos (wraps_groupStack hw)]
    exact List.mem_singleton_self _
  | succ m ih =>
    rw [List.range'_succ, List.map_cons, mem_tuplesBelow_cons]
    exact ⟨group w n, hC n (by omega), fits_groupStack hw (by omega), ih (n := n + 1) (by omega)⟩

/-! ### The finished search -/

/-- The search run from its start to its end has found the target's preimages and nothing else (R72, R77). -/
theorem mem_found_finish_start {y x : Word} {k : Wide} :
    x ∈ ((Search.start y k).finish y k).found ↔ roundK k x = y := by
  rw [Search.finish, mem_verifyAll]
  constructor
  · rintro (hnone | ⟨p, -, -, hround⟩)
    · exact absurd hnone List.not_mem_nil
    · exact hround
  · intro hx
    refine .inr ⟨groupStack (expand x) 8, ?_, candidateOf_groupStack x, hx⟩
    have hmem := groupStack_mem_tuplesBelow (consistent_expand x) (C := candidateSet y k)
      (fun i hi => group_expand_mem_candidateSet hx hi) (n := 0) (m := 8) rfl
    simpa [Search.start, groupStack, List.range_eq_range'] using hmem

theorem ascending_found_finish_start (y : Word) (k : Wide) : Ascending ((Search.start y k).finish y k).found :=
  finish_ascending (Search.Toward.start y k).ascending

end Sys2Proof.Machine
end

section
/-! PROOFS. The host's programs (20_memory.md R35, 30_encoding.md R57, R58): a write of an operand, a command with its polls, and a
read of a result, each as a number of steps. -/

namespace Sys2Proof.Machine

/-! ### Runs -/

theorem run_of_step {M : Host.Core} {s t u : M.State} {n : Nat} (hstep : M.step s = .next t)
    (hrun : M.run n t = .next u) : M.run (n + 1) s = .next u := by
  rw [Host.Core.run, hstep]
  exact hrun

theorem run_add {M : Host.Core} {s t u : M.State} {m n : Nat} (hfirst : M.run m s = .next t)
    (hlast : M.run n t = .next u) : M.run (m + n) s = .next u := by
  induction m generalizing s with
  | zero =>
    cases hfirst
    rwa [Nat.zero_add]
  | succ m ih =>
    rw [Nat.succ_add]
    rw [Host.Core.run] at hfirst
    split at hfirst
    case h_1 s' hstep => exact run_of_step hstep (ih hfirst)
    all_goals cases hfirst

/-! ### One line of a program -/

/-- The word of the window at which a register stands. -/
def Reg.wordIndex (r : Reg) : Nat := r.offset / 4

theorem Reg.wordIndex_cand (j : Fin 16) : (Reg.cand j).wordIndex = 16 + j.val := by
  simp only [Reg.wordIndex, Reg.offset]
  omega

theorem Reg.offset_eq (r : Reg) : r.offset = 4 * r.wordIndex := by
  cases r
  case cand j => rw [Reg.wordIndex_cand, Reg.offset]; omega
  all_goals rfl

theorem Reg.wordIndex_lt (r : Reg) : r.wordIndex < 64 := by
  cases r
  case cand j => rw [Reg.wordIndex_cand]; omega
  all_goals decide

theorem regAt_wordIndex (r : Reg) : regAt r.wordIndex = some r := by
  cases r
  case cand j => rw [Reg.wordIndex_cand, regAt_cand]
  all_goals rfl

theorem regValue_withBus (r : Reg) (s : State) (l : List Event) (v : Word) :
    State.regValue r { s with agenda := l, rdata := v } = s.regValue r := by
  cases r <;> rfl

/-- `RD <REG>` of a register whose reads are specified (R32, R57). -/
theorem step_rd {s : State} {r : Reg} {rest : List Event} (hready : r.isResult = false ∨ s.status.busy = false)
    (hagenda : s.agenda = rd s.page r :: rest) : step s = .next { s with agenda := rest, rdata := s.regValue r } := by
  rw [rd, Reg.address, Reg.offset_eq] at hagenda
  rw [step_read r.wordIndex_lt hagenda, readWord_of_reg (s := { s with agenda := rest }) (regAt_wordIndex r) hready,
    regValue_withBus r s rest s.rdata]

/-- `WR <REG>, <imm32>` (R33, R57). -/
theorem step_wr {s : State} {r : Reg} {v : Word} {rest : List Event} (hagenda : s.agenda = wr s.page r v :: rest) :
    step s = .next (State.writeWordAt r.wordIndex v { s with agenda := rest }) := by
  rw [wr, Reg.address, Reg.offset_eq] at hagenda
  exact step_write r.wordIndex_lt hagenda

theorem cmdWrite_of_accepts {s : State} {c : Word} {i : Instr} (h : s.Accepts c i) : s.cmdWrite c = s.issue i c := by
  obtain ⟨hidle, hdecode, hgate, hrange⟩ := h
  have hallowed : (s.status.cfgFault && !allowedInFault i) = false := by
    obtain hfault | rfl | rfl := hgate
    · simp [hfault]
    all_goals simp [allowedInFault]
  simp [State.cmdWrite, hidle, hdecode, hallowed, hrange]

/-- The line of an accepted command issues it (R54, R57). -/
theorem step_cmdLine {s : State} {i : Instr} {rest : List Event} (hacc : s.Accepts (encode i) i)
    (hagenda : s.agenda = cmdLine s.page i :: rest) :
    step s = .next { s.issue i (encode i) with agenda := rest } := by
  rw [step_wr hagenda]
  exact congrArg _ (cmdWrite_of_accepts (s := { s with agenda := rest }) hacc)

/-! ### A polled command -/

/-- Any number of STATUS reads changes nothing but the value returned (R32). -/
theorem run_statusReads {s : State} {n : Nat} {rest : List Event}
    (hagenda : s.agenda = List.replicate n (rd s.page .status) ++ rest) :
    ∃ v, Host.Core.run Sys2Proof.core n s = .next { s with agenda := rest, rdata := v } := by
  induction n generalizing s with
  | zero =>
    obtain rfl : s.agenda = rest := hagenda
    exact ⟨s.rdata, rfl⟩
  | succ n ih =>
    have hstep := step_rd (r := .status) (.inl rfl) hagenda
    obtain ⟨v, hrun⟩ := ih (s := { s with
      agenda := List.replicate n (rd s.page .status) ++ rest, rdata := s.status.word }) rfl
    exact ⟨v, run_of_step hstep hrun⟩

theorem exec_next_of_ne_tblrd {i : Instr} (hi : ∀ n, i ≠ .tblrd n) (s : State) : ∃ t, exec i s = .next t := by
  obtain hnext | ⟨n, hn, -⟩ := exec_next_or_noTableEntry i s
  · exact hnext
  · exact absurd hn (hi n)

/-- The engine's completion event, while a command runs, is that command's completion step (R55). -/
theorem step_complete {s : State} {i : Instr} {rest : List Event} (hphase : s.phase = .run i)
    (hagenda : s.agenda = .complete :: rest) : step s = exec i { s with agenda := rest } := by
  rw [step_cons hagenda, State.handle, State.engineComplete]
  simp only [hphase]

/-- A command issued, the host's last read having returned v and the events l being still to come. -/
def State.polled (i : Instr) (v : Word) (l : List Event) (s : State) : State :=
  { s.issue i (encode i) with agenda := l, rdata := v }

@[simp] theorem State.polled_key (i : Instr) (v : Word) (l : List Event) (s : State) :
    (s.polled i v l).lat.key = s.subkey := rfl

@[simp] theorem State.polled_arg0 (i : Instr) (v : Word) (l : List Event) (s : State) :
    (s.polled i v l).lat.arg0 = s.arg0 := rfl

@[simp] theorem State.polled_search (v : Word) (l : List Event) (s : State) :
    (s.polled .invert v l).search = Search.start s.arg0 s.subkey := rfl

@[simp] theorem subkey_withArg0 (s : State) (x : Word) : State.subkey { s with arg0 := x } = s.subkey := rfl

/-- An accepted command, polled until it has completed, and a read of a register after it: the read returns what the command's
completion step leaves there (R35, R58). -/
theorem run_call_rd {s : State} {i : Instr} {r : Reg} {polls : Nat} {rest : List Event} (hi : ∀ n, i ≠ .tblrd n)
    (hacc : s.Accepts (encode i) i) (hagenda : s.agenda = call s.page polls i ++ rd s.page r :: rest) :
    ∃ (v : Word) (l : List Event) (u t : State), exec i (s.polled i v l) = .next u ∧
      Host.Core.run Sys2Proof.core (polls + 4) s = .next t ∧ t.agenda = rest ∧ t.status.busy = false ∧
      t.rdata = u.regValue r := by
  have hissue := step_cmdLine (rest := poll s.page polls ++ rd s.page r :: rest) hacc hagenda
  obtain ⟨v, hreads⟩ := run_statusReads
    (s := { s.issue i (encode i) with agenda := poll s.page polls ++ rd s.page r :: rest })
    (n := polls) (rest := .complete :: rd s.page .status :: rd s.page r :: rest) (by simp [poll])
  obtain ⟨u, hexec⟩ := exec_next_of_ne_tblrd hi (s.polled i v (rd s.page .status :: rd s.page r :: rest))
  have hcomplete := step_complete (s := s.polled i v (.complete :: rd s.page .status :: rd s.page r :: rest)) rfl rfl
  obtain ⟨-, hidle, -, -, -, -, -, hnext, -, -, hpage⟩ := exec_frame hexec
  have hstatus : step u = .next { u with agenda := rd s.page r :: rest, rdata := u.status.word } :=
    step_rd (.inl rfl) (by rw [hnext, hpage]; rfl)
  have hresult := step_rd (s := { u with agenda := rd s.page r :: rest, rdata := u.status.word }) (r := r) (rest := rest)
    (.inr hidle) (by rw [hpage]; rfl)
  rw [regValue_withBus] at hresult
  exact ⟨v, _, u, _, hexec, run_of_step hissue (run_add hreads
    (run_of_step (hcomplete.trans hexec) (run_of_step hstatus (run_of_step hresult rfl)))), rfl, hidle, rfl⟩

/-- The same, after the operand is written: a program in one operand, as `round` and `invert` are (R58). -/
theorem run_arg0_call_rd {s : State} {i : Instr} {r : Reg} {x : Word} {polls : Nat} {rest : List Event}
    (hi : ∀ n, i ≠ .tblrd n) (hacc : State.Accepts { s with arg0 := x } (encode i) i)
    (hagenda : s.agenda = wr s.page .arg0 x :: (call s.page polls i ++ rd s.page r :: rest)) :
    ∃ (v : Word) (l : List Event) (u t : State), exec i (State.polled i v l { s with arg0 := x }) = .next u ∧
      Host.Core.run Sys2Proof.core (polls + 5) s = .next t ∧ t.agenda = rest ∧ t.status.busy = false ∧
      t.rdata = u.regValue r := by
  obtain ⟨v, l, u, t, hexec, hrun, hend⟩ := run_call_rd
    (s := { s with arg0 := x, agenda := call s.page polls i ++ rd s.page r :: rest }) hi hacc rfl
  exact ⟨v, l, u, t, hexec, run_of_step (step_wr hagenda) hrun, hend⟩

/-! ### A keyed ROUND -/

/-- `SETKEY <k48>`: a low word and a high half-word (R16, R58). -/
theorem run_setKey {s : State} {k : Wide} {rest : List Event} (hagenda : s.agenda = setKey s.page k ++ rest) :
    Host.Core.run Sys2Proof.core 2 s = .next { s with
      key0 := k.extractLsb' 0 32, key1 := ((k.extractLsb' 32 16).setWidth 32).extractLsb' 0 16, agenda := rest } := by
  have hkey1 := step_wr (rest := rest) (s := { s with
    key0 := k.extractLsb' 0 32, agenda := wr s.page .key1 ((k.extractLsb' 32 16).setWidth 32) :: rest }) rfl
  exact run_of_step (step_wr hagenda) (run_of_step hkey1 rfl)

/-- The two parts of a subkey that SETKEY writes make up the subkey (R16). -/
theorem append_setKey (k : Wide) :
    (((k.extractLsb' 32 16).setWidth 32).extractLsb' 0 16 ++ k.extractLsb' 0 32 : Wide) = k := by
  have hkey1 : ((k.extractLsb' 32 16).setWidth 32).extractLsb' 0 16 = k.extractLsb' 32 16 := by
    refine BitVec.eq_of_getLsbD_eq fun b hb => ?_
    simp [hb, show b < 32 by omega]
  rw [hkey1]
  exact BitVec.extractLsb'_append_extractLsb'

theorem exec_round_res0 {s t : State} (h : exec .round s = .next t) : t.res0 = roundK s.lat.key s.lat.arg0 := by
  cases h
  rfl

/-- `round <x>` on an idle engine reads the round function's value for the subkey in KEY1:KEY0 (R58, R69). -/
theorem run_roundLines {s : State} {x : Word} {polls : Nat} {rest : List Event} (hidle : s.status.busy = false)
    (hfault : s.status.cfgFault = false) (hagenda : s.agenda = roundLines s.page polls x ++ rest) :
    ∃ t : State, Host.Core.run Sys2Proof.core (polls + 5) s = .next t ∧ t.agenda = rest ∧ t.status.busy = false ∧
      t.rdata = roundK s.subkey x := by
  obtain ⟨v, l, u, t, hexec, hrun, hrest, hbusy, hrdata⟩ := run_arg0_call_rd (s := s) (i := .round) (r := .res0) (x := x)
    (polls := polls) (rest := rest) (by simp) ⟨hidle, by decide, .inl hfault, rfl⟩ (by simpa [roundLines] using hagenda)
  exact ⟨t, hrun, hrest, hbusy, by simpa [State.regValue, exec_round_res0 hexec] using hrdata⟩

/-- Settles O55: SETKEY, and then the polled ROUND with the subkey it wrote. -/
theorem polledKeyedRoundReadsItsResult : Obligations.PolledKeyedRoundReadsItsResult := by
  unfold Obligations.PolledKeyedRoundReadsItsResult
  intro s k x polls rest hidle hfault hagenda
  obtain ⟨t, hrun, hrest, hbusy, hrdata⟩ := run_roundLines (s := { s with
    key0 := k.extractLsb' 0 32, key1 := ((k.extractLsb' 32 16).setWidth 32).extractLsb' 0 16,
    agenda := roundLines s.page polls x ++ rest }) hidle hfault rfl
  rw [show 7 + polls = 2 + (polls + 5) by omega]
  exact ⟨t, run_add (run_setKey hagenda) hrun, hrest, hbusy, hrdata.trans (congrArg (roundK · x) (append_setKey k))⟩

/-! ### INVERT and its count -/

theorem exec_invert_cnt {s t : State} (h : exec .invert s = .next t) :
    t.cnt.toNat = min (s.search.finish s.lat.arg0 s.lat.key).found.length 16 := by
  cases h
  exact toNat_cnt_writeSearch _ s

theorem toNat_regValue_cnt (s : State) : (s.regValue .cnt).toNat = s.cnt.toNat := BitVec.toNat_setWidth_of_le (by decide)

/-- `invert <y>` on an idle engine, with no candidate read: CNT is the number of candidates of the finished search for the subkey in
KEY1:KEY0, sixteen at most (R58, R80). -/
theorem run_invertLines {s : State} {y : Word} {polls : Nat} {rest : List Event} (hidle : s.status.busy = false)
    (hfault : s.status.cfgFault = false) (hagenda : s.agenda = invertLines s.page polls y 0 ++ rest) :
    ∃ t : State, Host.Core.run Sys2Proof.core (polls + 5) s = .next t ∧ t.agenda = rest ∧
      t.rdata.toNat = min ((Search.start y s.subkey).finish y s.subkey).found.length 16 := by
  obtain ⟨v, l, u, t, hexec, hrun, hrest, -, hrdata⟩ := run_arg0_call_rd (s := s) (i := .invert) (r := .cnt) (x := y)
    (polls := polls) (rest := rest) (by simp) ⟨hidle, by decide, .inl hfault, rfl⟩ (by simpa [invertLines] using hagenda)
  refine ⟨t, hrun, hrest, ?_⟩
  rw [hrdata, toNat_regValue_cnt, exec_invert_cnt hexec]
  simp

/-- Settles O56: CNT counts the candidates of the finished search, which are the target's preimages in ascending order. -/
theorem polledInvertReadsTheCount : Obligations.PolledInvertReadsTheCount := by
  unfold Obligations.PolledInvertReadsTheCount
  intro s y polls rest hidle hfault hagenda
  obtain ⟨t, hrun, hrest, hcount⟩ := run_invertLines hidle hfault hagenda
  rw [Nat.add_comm 5 polls]
  exact ⟨t, _, hrun, hrest, ascending_found_finish_start y s.subkey, fun _ => mem_found_finish_start, hcount⟩

end Sys2Proof.Machine
end

section
/-! PROOFS. The command words (30_encoding.md R46 to R49, R56): a word is its three fields, decoding inverts encoding, and the legal
words, the decoded words and the words that fit a row of the opcode table are the same words. -/

namespace Sys2Proof.Machine

/-! ### The fields of a word (R46) -/

theorem append_fields (c : Word) : rsvdOf c ++ selOf c ++ opOf c = c := by
  have hhigh : rsvdOf c ++ selOf c = c.extractLsb' 8 24 := BitVec.extractLsb'_append_extractLsb'_eq_extractLsb' rfl
  rw [hhigh]
  exact BitVec.extractLsb'_append_extractLsb' (w := 24) (len := 8)

@[simp] theorem opOf_encode (i : Instr) : opOf (encode i) = i.op := BitVec.extractLsb'_append_eq_right

@[simp] theorem selOf_encode (i : Instr) : selOf (encode i) = i.sel :=
  (BitVec.extractLsb'_append_eq_of_le (by decide)).trans BitVec.extractLsb'_append_eq_right

@[simp] theorem rsvdOf_encode (i : Instr) : rsvdOf (encode i) = 0 :=
  (BitVec.extractLsb'_append_eq_of_le (by decide)).trans BitVec.extractLsb'_append_eq_left

/-- A command whose fields are a word's encodes to that word. -/
theorem encode_eq_of_fields {c : Word} {i : Instr} (hrsvd : rsvdOf c = 0) (hop : i.op = opOf c) (hsel : i.sel = selOf c) :
    encode i = c := by
  rw [encode, hop, hsel, ← hrsvd, append_fields]

/-! ### Decoding inverts encoding -/

theorem decodeOp_op_sel {i : Instr} (h : i.wellFormed = true) : decodeOp i.op i.sel = .ok i := by
  cases i
  case tblrd t => exact if_pos (of_decide_eq_true h)
  all_goals rfl

theorem decode_encode {i : Instr} (h : i.wellFormed = true) : decode (encode i) = .ok i := by
  rw [decode, if_pos (rsvdOf_encode i), opOf_encode, selOf_encode, decodeOp_op_sel h]

theorem rsvdOf_of_decode {c : Word} {i : Instr} (h : decode c = .ok i) : rsvdOf c = 0 := by
  by_contra hrsvd
  rw [decode, if_neg hrsvd] at h
  cases h

theorem encode_of_decode {c : Word} {i : Instr} (h : decode c = .ok i) : encode i = c := by
  obtain ⟨-, hop, hsel⟩ := decode_eq_ok h
  exact encode_eq_of_fields (rsvdOf_of_decode h) hop.symm hsel.symm

theorem decode_eq_ok_iff (c : Word) (i : Instr) : decode c = .ok i ↔ (i.wellFormed = true ∧ encode i = c) := by
  constructor
  · exact fun h => ⟨(decode_eq_ok h).1, encode_of_decode h⟩
  · rintro ⟨hwf, rfl⟩
    exact decode_encode hwf

/-- Settles O1: a decoded word is made up of its command's fields, and each well-formed command's fields decode to it. -/
theorem decodingInvertsEncoding : Obligations.DecodingInvertsEncoding := decode_eq_ok_iff

/-- Settles O4: the legal words are encodings of their commands. -/
theorem writtenOutWordsDecode : Obligations.WrittenOutWordsDecode := by
  unfold Obligations.WrittenOutWordsDecode
  refine ⟨decode_encode (i := .nop) rfl, decode_encode (i := .expand) rfl, decode_encode (i := .subst) rfl,
    decode_encode (i := .round) rfl, decode_encode (i := .invert) rfl, decode_encode (i := .sbox 7) rfl,
    decode_encode (i := .sboxinv 3) rfl, decode_encode (i := .tblrd 3) rfl, decode_encode (i := .adjchk) rfl, ?_⟩
  exact ⟨rfl, rfl, rfl, rfl⟩ -- the last four are no encodings

/-! ### The legal words (R49) -/

/-- Each opcode of a command that has no selector is the opcode of one (R47, R48). -/
theorem exists_plain_command {op : BitVec 8} (h : op.toNat ≤ 0x08 ∨ op = 0x0C ∨ op = 0x0D) :
    ∃ i : Instr, i.wellFormed = true ∧ i.op = op ∧ i.sel = 0 := by
  obtain hle | rfl | rfl := h
  · obtain ⟨n, hn, rfl⟩ : ∃ n ≤ 8, op = BitVec.ofNat 8 n := ⟨op.toNat, hle, by simp⟩
    interval_cases n
    exacts [⟨.nop, rfl, rfl, rfl⟩, ⟨.expand, rfl, rfl, rfl⟩, ⟨.unexpand, rfl, rfl, rfl⟩, ⟨.subst, rfl, rfl, rfl⟩,
      ⟨.perm, rfl, rfl, rfl⟩, ⟨.unperm, rfl, rfl, rfl⟩, ⟨.round, rfl, rfl, rfl⟩, ⟨.invert, rfl, rfl, rfl⟩,
      ⟨.verify, rfl, rfl, rfl⟩]
  · exact ⟨.selftest, rfl, rfl, rfl⟩
  · exact ⟨.adjchk, rfl, rfl, rfl⟩

/-- R49, clause by clause. -/
theorem legal_iff_fields (c : Word) : legal c = true ↔ rsvdOf c = 0 ∧
    (((opOf c).toNat ≤ 0x08 ∨ opOf c = 0x0C ∨ opOf c = 0x0D) ∧ selOf c = 0 ∨ opOf c = 0x09 ∨ opOf c = 0x0A ∨
      opOf c = 0x0B ∧ (selOf c).toNat ≤ 3) := by
  simp [legal, or_assoc]

theorem legal_encode {i : Instr} (h : i.wellFormed = true) : legal (encode i) = true := by
  rw [legal_iff_fields, opOf_encode, selOf_encode]
  refine ⟨rsvdOf_encode i, ?_⟩
  cases i
  case tblrd t => exact .inr (.inr (.inr ⟨rfl, of_decide_eq_true h⟩))
  all_goals simp [Instr.op, Instr.sel]

theorem exists_command_of_legal {c : Word} (h : legal c = true) : ∃ i : Instr, i.wellFormed = true ∧ encode i = c := by
  obtain ⟨hrsvd, ⟨hop, hsel⟩ | hop | hop | ⟨hop, hsel⟩⟩ := (legal_iff_fields c).mp h
  · obtain ⟨i, hwf, hop, hsel'⟩ := exists_plain_command hop
    exact ⟨i, hwf, encode_eq_of_fields hrsvd hop (hsel'.trans hsel.symm)⟩
  · exact ⟨.sbox (selOf c), rfl, encode_eq_of_fields hrsvd hop.symm rfl⟩
  · exact ⟨.sboxinv (selOf c), rfl, encode_eq_of_fields hrsvd hop.symm rfl⟩
  · exact ⟨.tblrd (selOf c), decide_eq_true hsel, encode_eq_of_fields hrsvd hop.symm rfl⟩

theorem legal_iff_exists_decode (c : Word) : legal c = true ↔ ∃ i, decode c = .ok i := by
  simp only [decode_eq_ok_iff]
  constructor
  · exact exists_command_of_legal
  · rintro ⟨i, hwf, rfl⟩
    exact legal_encode hwf

theorem decode_error_of_not_legal {c : Word} (h : legal c = false) : ∃ r, decode c = .error r := by
  cases hdecode : decode c with
  | error r => exact ⟨r, rfl⟩
  | ok i => simp [(legal_iff_exists_decode c).mpr ⟨i, hdecode⟩] at h

/-! ### The opcode table (R47, R49) -/

theorem fits_encode_iff {i : Instr} (h : i.wellFormed = true) :
    ∀ r ∈ opcodeTable, (r.fits (encode i) = true ↔ r.mnemonic = i.mnemonic) := by
  cases i
  case sbox n => revert n; decide
  case sboxinv n => revert n; decide
  case tblrd t => revert t; decide
  all_goals decide

/-- Settles O3: the word is its command's encoding, which fits the row of the command's mnemonic alone. -/
theorem decodedWordFitsItsRowOnly : Obligations.DecodedWordFitsItsRowOnly := by
  unfold Obligations.DecodedWordFitsItsRowOnly
  intro c i hdecode
  obtain ⟨hwf, rfl⟩ := (decode_eq_ok_iff c i).mp hdecode
  exact fits_encode_iff hwf

theorem opcodeTable_mnemonics_nodup : (opcodeTable.map OpcodeRow.mnemonic).Nodup := by decide

/-- A command has one row (R47). -/
theorem existsUnique_row (i : Instr) : ∃! r, r ∈ opcodeTable ∧ r.mnemonic = i.mnemonic := by
  have hmem : i.mnemonic ∈ opcodeTable.map OpcodeRow.mnemonic := by cases i <;> simp [opcodeTable, Instr.mnemonic]
  obtain ⟨r, hr, hname⟩ := List.mem_map.mp hmem
  refine ⟨r, ⟨hr, hname⟩, fun q ⟨hq, hname'⟩ => ?_⟩
  exact List.inj_on_of_nodup_map opcodeTable_mnemonics_nodup hq hr (hname'.trans hname.symm)

/-- Every row fixes RSVD to 0 and OP to the row's opcode. -/
theorem row_fixes_rsvd_and_op : ∀ r ∈ opcodeTable, rsvdOf r.mask = BitVec.allOnes 21 ∧ rsvdOf r.pattern = 0 ∧
    opOf r.mask = BitVec.allOnes 8 := by decide

theorem fields_of_fits {r : OpcodeRow} (hr : r ∈ opcodeTable) {c : Word} (h : r.fits c = true) :
    rsvdOf c = 0 ∧ opOf c = opOf r.pattern := by
  obtain ⟨hrsvdMask, hrsvd, hopMask⟩ := row_fixes_rsvd_and_op r hr
  have hand : c &&& r.mask = r.pattern := by simpa [OpcodeRow.fits] using h
  constructor
  · have : rsvdOf c &&& rsvdOf r.mask = rsvdOf r.pattern := by rw [← hand]; exact BitVec.extractLsb'_and.symm
    rwa [hrsvdMask, hrsvd, BitVec.and_allOnes] at this
  · have : opOf c &&& opOf r.mask = opOf r.pattern := by rw [← hand]; exact BitVec.extractLsb'_and.symm
    rwa [hopMask, BitVec.and_allOnes] at this

/-- With these two fields as the row has them, the selectors that fit the row are the legal ones (R48). -/
theorem legal_of_fits_selector : ∀ r ∈ opcodeTable, ∀ sel : BitVec 3,
    r.fits ((0 : BitVec 21) ++ sel ++ opOf r.pattern) = true → legal ((0 : BitVec 21) ++ sel ++ opOf r.pattern) = true := by
  decide

theorem legal_of_fits {r : OpcodeRow} (hr : r ∈ opcodeTable) {c : Word} (h : r.fits c = true) : legal c = true := by
  obtain ⟨hrsvd, hop⟩ := fields_of_fits hr h
  have hlegal := legal_of_fits_selector r hr (selOf c)
  rw [← hrsvd, ← hop, append_fields] at hlegal
  exact hlegal h

theorem legal_iff_existsUnique_row (c : Word) : legal c = true ↔ ∃! r, r ∈ opcodeTable ∧ r.fits c = true := by
  constructor
  · intro h
    obtain ⟨i, hwf, rfl⟩ := exists_command_of_legal h
    refine (existsUnique_congr fun r => ?_).mpr (existsUnique_row i)
    exact and_congr_right fun hr => fits_encode_iff hwf r hr
  · rintro ⟨r, ⟨hr, hfits⟩, -⟩
    exact legal_of_fits hr hfits

end Sys2Proof.Machine
end

section
/-! PROOFS. A CMD write and the completion after it (30_encoding.md R49, R51, R54, R55; 60_exceptions.md R88, R92): each rejection in the
order of the checks, the issue of an accepted command, and the command's completion step. -/

namespace Sys2Proof.Machine

/-! ### The CMD write's branches (R54, R92) -/

/-- A CMD write as a step, the events after it being still to come (R33). -/
theorem step_cmdWrite {s t : State} {c : Word} {rest : List Event} (hagenda : s.agenda = .write (0x100 * s.page) 4 c :: rest)
    (hwrite : State.cmdWrite c { s with agenda := rest } = t) : step s = .next t :=
  hwrite ▸ step_write (k := 0) (by decide) hagenda

theorem cmdWrite_of_not_legal {s : State} {c : Word} (hidle : s.status.busy = false) (hlegal : legal c = false) :
    s.cmdWrite c = s.reject .illegalCmd := by
  obtain ⟨r, hdecode⟩ := decode_error_of_not_legal hlegal
  simp [State.cmdWrite, hidle, hdecode]

theorem cmdWrite_of_gated {s : State} {c : Word} {i : Instr} (hidle : s.status.busy = false) (hdecode : decode c = .ok i)
    (hfault : s.status.cfgFault = true) (hgate : allowedInFault i = false) : s.cmdWrite c = s.reject .cfgReject := by
  simp [State.cmdWrite, hidle, hdecode, hfault, hgate]

theorem cmdWrite_of_outOfRange {s : State} {c : Word} {i : Instr} (hidle : s.status.busy = false) (hdecode : decode c = .ok i)
    (hgate : s.status.cfgFault = false ∨ allowedInFault i = true) (hrange : operandOutOfRange i s.arg0 = true) :
    s.cmdWrite c = s.reject .badOperand := by
  have hallowed : (s.status.cfgFault && !allowedInFault i) = false := by
    obtain h | h := hgate <;> simp [h]
  simp [State.cmdWrite, hidle, hdecode, hallowed, hrange]

/-- NOP and SELFTEST, the commands CFG_FAULT does not gate, by name and by opcode (R47, R88). -/
theorem allowedInFault_iff (i : Instr) : allowedInFault i = true ↔ i = .nop ∨ i = .selftest := by
  cases i <;> simp [allowedInFault]

theorem allowedInFault_iff_op (i : Instr) : allowedInFault i = true ↔ i.op = 0x00 ∨ i.op = 0x0C := by
  cases i <;> simp [allowedInFault, Instr.op]

theorem allowedInFault_iff_opOf {c : Word} {i : Instr} (h : decode c = .ok i) :
    allowedInFault i = true ↔ opOf c = 0x00 ∨ opOf c = 0x0C := by
  obtain ⟨-, hop, -⟩ := decode_eq_ok h
  rw [hop, allowedInFault_iff_op]

theorem step_cmdWrite_of_not_legal {s : State} {c : Word} {rest : List Event}
    (hagenda : s.agenda = .write (0x100 * s.page) 4 c :: rest) (hidle : s.status.busy = false) (hlegal : legal c = false) :
    step s = .next (State.reject .illegalCmd { s with agenda := rest }) :=
  step_cmdWrite hagenda (cmdWrite_of_not_legal hidle hlegal)

/-- The CMD write of an accepted command issues it, with the events after the write still to come (R54). -/
theorem step_cmdWrite_of_accepts {s : State} {c : Word} {i : Instr} {rest : List Event}
    (hagenda : s.agenda = .write (0x100 * s.page) 4 c :: rest) (hacc : s.Accepts c i) :
    step s = .next (State.issue i c { s with agenda := rest }) :=
  step_cmdWrite hagenda (cmdWrite_of_accepts hacc)

/-- Settles O2: the legal words are the decoded ones, each of them fits the one row of its command, and the CMD write of another
word is rejected. -/
theorem legalWordsAreTheCommands : Obligations.LegalWordsAreTheCommands :=
  ⟨legal_iff_exists_decode, legal_iff_existsUnique_row, fun _ _ _ => step_cmdWrite_of_not_legal⟩

/-- Settles O5: the branches of the CMD write, BUSY first, then the word, the gate and the operand. -/
theorem cmdWriteProcedure : Obligations.CmdWriteProcedure := by
  unfold Obligations.CmdWriteProcedure
  intro s c rest hagenda
  refine ⟨fun hbusy => ?_, step_cmdWrite_of_not_legal hagenda, fun hidle hlegal hfault hop => ?_,
    fun i hidle hdecode hgate => ⟨fun hrange => ?_, fun hrange => ⟨searchAtIssue i s, ?_⟩⟩⟩
  · exact step_cmdWrite hagenda (cmdWrite_of_busy (s := { s with agenda := rest }) hbusy c)
  · obtain ⟨i, hdecode⟩ := (legal_iff_exists_decode c).mp hlegal
    have hgate : allowedInFault i = false := by simpa using mt (allowedInFault_iff_opOf hdecode).mp hop
    exact step_cmdWrite hagenda (cmdWrite_of_gated hidle hdecode hfault hgate)
  · have hallowed := hgate.imp_right (allowedInFault_iff_opOf hdecode).mpr
    exact step_cmdWrite hagenda (cmdWrite_of_outOfRange hidle hdecode hallowed hrange)
  · have hnamed := hgate.imp_right fun hop => (allowedInFault_iff i).mp ((allowedInFault_iff_opOf hdecode).mpr hop)
    exact step_cmdWrite_of_accepts hagenda ⟨hidle, hdecode, hnamed, hrange⟩

/-! ### Operand ranges (R51) -/

/-- The bits of a word from bit k up are not all 0 exactly when its value reaches 2^k. -/
theorem extractLsb'_ne_zero_iff (x : Word) {k n : Nat} (h : k + n = 32) : x.extractLsb' k n ≠ 0 ↔ 2 ^ k ≤ x.toNat := by
  have hlt : x.toNat / 2 ^ k < 2 ^ n := by
    rw [Nat.div_lt_iff_lt_mul (by positivity), ← pow_add, Nat.add_comm n k, h]
    exact x.isLt
  rw [ne_eq, ← BitVec.toNat_inj, BitVec.extractLsb'_toNat, Nat.shiftRight_eq_div_pow, Nat.mod_eq_of_lt hlt]
  simp [Nat.div_eq_zero_iff]

/-- R51 in numbers. -/
theorem operandOutOfRange_iff (i : Instr) (x : Word) : operandOutOfRange i x = true ↔
    (∃ n, i = .sbox n ∧ 64 ≤ x.toNat) ∨ (∃ n, i = .sboxinv n ∧ 16 ≤ x.toNat) ∨
      (i = .tblrd 0 ∧ 48 ≤ x.toNat) ∨ (∃ t, i = .tblrd t ∧ t ≠ 0 ∧ 32 ≤ x.toNat) := by
  cases i
  case sbox n => simpa [operandOutOfRange] using extractLsb'_ne_zero_iff x (k := 6) rfl
  case sboxinv n => simpa [operandOutOfRange] using extractLsb'_ne_zero_iff x (k := 4) rfl
  case tblrd t =>
    by_cases ht : t = 0#3 <;> simp [operandOutOfRange, ht]
  all_goals simp [operandOutOfRange]

/-- Settles O7: the CMD write's operand check, its ranges told in numbers. -/
theorem operandRangesCheckedAtIssue : Obligations.OperandRangesCheckedAtIssue := by
  unfold Obligations.OperandRangesCheckedAtIssue
  intro s i rest hagenda hidle hfault hwf bad
  have hbad : operandOutOfRange i s.arg0 = true ↔ bad := operandOutOfRange_iff i s.arg0
  have hdecode := decode_encode hwf
  constructor
  · intro h
    exact step_cmdWrite hagenda (cmdWrite_of_outOfRange hidle hdecode (.inl hfault) (hbad.mpr h))
  · intro h
    have hacc : s.Accepts (encode i) i := ⟨hidle, hdecode, .inl hfault, by simpa using mt hbad.mp h⟩
    exact ⟨_, step_cmdWrite_of_accepts hagenda hacc, rfl, rfl⟩

/-! ### Completion (R55) -/

theorem engineComplete_of_run {s : State} {i : Instr} (h : s.phase = .run i) : s.engineComplete = exec i s := by
  simp only [State.engineComplete, h]

/-- Settles O10: with no event to come, at a completion, and after the STATUS write that coincides with one. -/
theorem completionRunsTheRunningCommand : Obligations.CompletionRunsTheRunningCommand := by
  unfold Obligations.CompletionRunsTheRunningCommand
  intro s i hphase
  refine ⟨fun hagenda => ?_, fun rest => step_complete hphase, fun v rest hagenda => ?_⟩
  · exact (step_nil hagenda).trans (engineComplete_of_run hphase)
  · exact (step_cons hagenda).trans (engineComplete_of_run (s := State.statusWrite v { s with agenda := rest }) hphase)

theorem run_one (M : Host.Core) (s : M.State) : M.run 1 s = M.step s := by
  simp only [Host.Core.run]
  cases M.step s <;> rfl

theorem run_succ_of_step {M : Host.Core} {s t : M.State} (n : Nat) (h : M.step s = .next t) : M.run (n + 1) s = M.run n t := by
  rw [Host.Core.run, h]

theorem withFetchWord_of_decode {s : State} {w : Nat} {i : Instr} (hw : w < 2 ^ 32)
    (hdecode : decode (BitVec.ofNat 32 w) = .ok i) :
    s.withFetchWord 32 w = { s.issue i (BitVec.ofNat 32 w) with agenda := .complete :: s.agenda } := by
  rw [State.withFetchWord, Nat.mod_eq_of_lt hw, State.placeCommand, hdecode]

/-- Settles O11: the write issues the command, and the completion that is next, by the agenda or by withFetchWord, runs it. -/
theorem acceptedWordRunsItsCommand : Obligations.AcceptedWordRunsItsCommand := by
  unfold Obligations.AcceptedWordRunsItsCommand
  constructor
  · intro s c i rest hagenda hacc
    let issued : State := State.issue i c { s with agenda := .complete :: rest }
    have hissue : step s = .next issued := step_cmdWrite_of_accepts hagenda hacc
    have hcomplete : step issued = exec i (State.issue i c { s with agenda := rest }) := step_complete rfl rfl
    have hrun : Host.Core.run Sys2Proof.core 2 s = exec i (State.issue i c { s with agenda := rest }) :=
      (run_succ_of_step 1 hissue).trans ((run_one Sys2Proof.core issued).trans hcomplete)
    rw [hrun]
    cases exec i (State.issue i c { s with agenda := rest }) <;> rfl
  · intro s w i hw hdecode
    rw [withFetchWord_of_decode hw hdecode]
    exact step_complete rfl rfl

end Sys2Proof.Machine
end

section
/-! PROOFS. The permutation pipeline (40_permutation.md R59 to R63): the ROM's E, E⁻¹, P and P⁻¹ are the closed form of E (R40), first
occurrence (R41), the list of P (R42) and its inverse (R43), and each command moves its bits, or reads its entry, by them. -/

namespace Sys2Proof.Machine

/-! ### The ROM tables, told without the ROM -/

/-- ROM_E is the closed form of E (R40). -/
theorem toNat_rom_e : ∀ k < 48, (rom.e.getD k 0).toNat = eFips (k + 1) := by decide

theorem toNat_rom_p : ∀ k < 32, (rom.p.getD k 0).toNat = pFips.getD k 0 := by decide

/-- ROM_PINV names the position of each number in the list of P (R43). -/
theorem pFips_rom_pinv : ∀ k < 32, 1 ≤ (rom.pinv.getD k 0).toNat ∧
    pFips.getD ((rom.pinv.getD k 0).toNat - 1) 0 = k + 1 := by decide

/-- ROM_EINV names a position where E places the input bit. -/
theorem eFips_rom_einv : ∀ k < 32, 1 ≤ (rom.einv.getD k 0).toNat ∧ (rom.einv.getD k 0).toNat ≤ 48 ∧
    eFips (rom.einv.getD k 0).toNat = k + 1 := by decide

/-- E places the input bit at no position before the one ROM_EINV names. -/
theorem eFips_ne_of_lt_rom_einv : ∀ k < 32, ∀ m < (rom.einv.getD k 0).toNat, 1 ≤ m → eFips m ≠ k + 1 := by decide

theorem firstInE_rom_einv {k : Nat} (hk : k < 32) : FirstInE (k + 1) (rom.einv.getD k 0).toNat := by
  refine ⟨eFips_rom_einv k hk, fun m ⟨hm, _, heq⟩ => ?_⟩
  by_contra hlt
  exact eFips_ne_of_lt_rom_einv k hk m (Nat.lt_of_not_le hlt) hm heq

/-! ### Where the pipeline takes each bit -/

/-- R40: FIPS bit j of group i of E's result is the input's FIPS bit 4·i + j, counted cyclically with 32 for 0. -/
theorem expandSource_group {i j : Nat} (hi : i < 8) (hj : j < 6) :
    expandSource (6 * (7 - i) + (5 - j)) = (64 - 4 * i - j) % 32 := by
  have hposition : 47 - (6 * (7 - i) + (5 - j)) = 6 * i + j := by omega
  rw [expandSource, hposition, toNat_rom_e _ (by omega), eFips]
  omega

/-- R41: E⁻¹ takes an input bit from its first position in E, which is unique. -/
theorem firstCopy_of_firstInE {j k : Nat} (h1 : 1 ≤ j) (h32 : j ≤ 32) (h : FirstInE j k) : firstCopy (32 - j) = 48 - k := by
  obtain ⟨n, rfl⟩ := Nat.exists_eq_add_of_le' h1
  have hposition : 31 - (32 - (n + 1)) = n := by omega
  rw [firstCopy, hposition, (firstInE_rom_einv (by omega)).unique h]

/-- R60, C12: E⁻¹ takes no bit from a second copy. -/
theorem firstCopy_not_mem_secondCopies : ∀ j < 32,
    firstCopy j ∉ [0, 1, 4, 5, 10, 11, 16, 17, 22, 23, 28, 29, 34, 35, 40, 41] := by decide

theorem permuteSource_pFips {k : Nat} (hk : k < 32) : permuteSource (31 - k) = 32 - pFips.getD k 0 := by
  have hposition : 31 - (31 - k) = k := by omega
  rw [permuteSource, hposition, toNat_rom_p k hk]

/-! ### EXPAND, UNEXPAND, PERM and UNPERM -/

/-- Settles O12: RES1:RES0 is E of the operand, whose bits come from where the closed form says. -/
theorem expandSpreadsTheOperandBits : Obligations.ExpandSpreadsTheOperandBits := by
  unfold Obligations.ExpandSpreadsTheOperandBits
  refine fun s => ⟨_, rfl, rfl, fun i j hi hj => ?_⟩
  have hresult : (expand s.lat.arg0).extractLsb' 32 16 ++ (expand s.lat.arg0).extractLsb' 0 32 = expand s.lat.arg0 :=
    BitVec.extractLsb'_append_extractLsb'
  calc ((expand s.lat.arg0).extractLsb' 32 16 ++ (expand s.lat.arg0).extractLsb' 0 32).getLsbD (6 * (7 - i) + (5 - j))
      = (expand s.lat.arg0).getLsbD (6 * (7 - i) + (5 - j)) := by rw [hresult]
    _ = s.lat.arg0.getLsbD (expandSource (6 * (7 - i) + (5 - j))) := getLsbD_expand_source _ (by omega)
    _ = s.lat.arg0.getLsbD ((64 - 4 * i - j) % 32) := by rw [expandSource_group hi hj]

/-- Settles O13: E⁻¹ takes each bit from the first copy, which stands at the bit's first position in E. -/
theorem unexpandReadsFirstOccurrences : Obligations.UnexpandReadsFirstOccurrences := by
  unfold Obligations.UnexpandReadsFirstOccurrences
  refine fun s => ⟨_, rfl, rfl, fun j k h1 h32 hfirst => ?_⟩
  calc (unexpand s.w48).getLsbD (32 - j)
      = s.w48.getLsbD (firstCopy (32 - j)) := getLsbD_unexpand_firstCopy _ (by omega)
    _ = s.w48.getLsbD (48 - k) := by rw [firstCopy_of_firstInE h1 h32 hfirst]

/-- Settles O20: every bit E⁻¹ takes is one on which the two values agree. -/
theorem unexpandIgnoresSecondCopies : Obligations.UnexpandIgnoresSecondCopies := by
  unfold Obligations.UnexpandIgnoresSecondCopies
  refine fun v w hagree => BitVec.eq_of_getLsbD_eq fun j hj => ?_
  rw [getLsbD_unexpand_firstCopy v hj, getLsbD_unexpand_firstCopy w hj,
    hagree _ (firstCopy_lt j hj) (firstCopy_not_mem_secondCopies j hj)]

/-- Settles O14: P takes bit 31 − k from where its list says, and P⁻¹ is undone by P, so it puts that bit back. -/
theorem permAndUnpermMoveTheBits : Obligations.PermAndUnpermMoveTheBits := by
  unfold Obligations.PermAndUnpermMoveTheBits
  refine ⟨fun s => ⟨_, rfl, rfl, fun k hk => ?_⟩, fun s => ⟨_, rfl, rfl, fun k hk => ?_⟩⟩
  · calc (permute s.lat.arg0).getLsbD (31 - k)
        = s.lat.arg0.getLsbD (permuteSource (31 - k)) := getLsbD_permute_source _ (by omega)
      _ = s.lat.arg0.getLsbD (32 - pFips.getD k 0) := by rw [permuteSource_pFips hk]
  · calc (unpermute s.lat.arg0).getLsbD (32 - pFips.getD k 0)
        = (unpermute s.lat.arg0).getLsbD (permuteSource (31 - k)) := by rw [permuteSource_pFips hk]
      _ = (permute (unpermute s.lat.arg0)).getLsbD (31 - k) := (getLsbD_permute_source _ (by omega)).symm
      _ = s.lat.arg0.getLsbD (31 - k) := by rw [permute_unpermute]

/-! ### TBLRD -/

theorem tableOf_eq_none : ∀ t : BitVec 3, 4 ≤ t.toNat → tableOf t = none := by decide

theorem tableOf_of_le : ∀ t : BitVec 3, t.toNat ≤ 3 →
    ∃ T ∈ tableOf t, T.length = if t = 0 then 48 else 32 := by decide

theorem tableEntry_of_tableOf {t : BitVec 3} {T : List (BitVec 6)} (hT : tableOf t = some T) (k : Nat) :
    tableEntry t k = T[k]? := by
  simp [tableEntry, hT, entry]

/-- Where there is no entry: no table, or an index past the table's end (R48, R51). -/
theorem tableEntry_eq_none_iff (t : BitVec 3) (k : Nat) :
    tableEntry t k = none ↔ 4 ≤ t.toNat ∨ (if t = 0 then 48 else 32) ≤ k := by
  by_cases ht : 4 ≤ t.toNat
  · simp [tableEntry, tableOf_eq_none t ht, ht]
  · obtain ⟨T, hT, hlength⟩ := tableOf_of_le t (by omega)
    rw [tableEntry_of_tableOf hT, List.getElem?_eq_none_iff, hlength]
    simp [ht]

/-- An entry of a table, by the index that `getD` reads. -/
theorem getD_of_tableEntry {t : BitVec 3} {T : List (BitVec 6)} {k : Nat} {v : BitVec 6} (hT : tableOf t = some T)
    (h : tableEntry t k = some v) : k < T.length ∧ T.getD k 0 = v := by
  rw [tableEntry_of_tableOf hT] at h
  exact ⟨(List.getElem?_eq_some_iff.mp h).1, by simp [h]⟩

theorem exec_tblrd_of_entry {t : BitVec 3} {s : State} {v : BitVec 6} (h : tableEntry t s.lat.arg0.toNat = some v) :
    exec (.tblrd t) s = .next (s.writeWord (v.setWidth 32)).completed := by
  simp only [exec, execTblrd, h]

theorem exec_tblrd_of_no_entry {t : BitVec 3} {s : State} (h : tableEntry t s.lat.arg0.toNat = none) :
    exec (.tblrd t) s = .fault .noTableEntry := by
  simp only [exec, execTblrd, h]

/-- Settles O15: an index in range has an entry, and each table's entry is what the spec says of it. -/
theorem tblrdReadsTheTables : Obligations.TblrdReadsTheTables := by
  unfold Obligations.TblrdReadsTheTables
  intro s t ht hrange
  obtain ⟨v, hv⟩ : ∃ v, tableEntry t s.lat.arg0.toNat = some v := by
    rw [← Option.ne_none_iff_exists', ne_eq, tableEntry_eq_none_iff]
    omega
  have hres0 : (s.writeWord (v.setWidth 32)).completed.res0.toNat = v.toNat := BitVec.toNat_setWidth_of_le (by decide)
  refine ⟨_, exec_tblrd_of_entry hv, rfl, ?_⟩
  rw [hres0]
  refine ⟨?_, ?_, ?_, ?_⟩ <;> rintro rfl
  · obtain ⟨hk, rfl⟩ := getD_of_tableEntry (T := rom.e) rfl hv
    exact toNat_rom_e _ hk
  · obtain ⟨hk, rfl⟩ := getD_of_tableEntry (T := rom.einv) rfl hv
    exact firstInE_rom_einv hk
  · obtain ⟨hk, rfl⟩ := getD_of_tableEntry (T := rom.p) rfl hv
    exact toNat_rom_p _ hk
  · obtain ⟨hk, rfl⟩ := getD_of_tableEntry (T := rom.pinv) rfl hv
    exact pFips_rom_pinv _ hk

/-- Settles O16: TBLRD without an entry stops, and these are the cases without one. -/
theorem tblrdStopsWithoutAnEntry : Obligations.TblrdStopsWithoutAnEntry := by
  unfold Obligations.TblrdStopsWithoutAnEntry
  exact fun s t h => exec_tblrd_of_no_entry ((tableEntry_eq_none_iff t _).mpr h)

end Sys2Proof.Machine
end

section
/-! PROOFS. The S-box lookup array (41_substitution.md R64 to R67): SUBST works lane by lane, SBOX reads the ROM at the row and
column of its input, and SBOXINV packs the inverse entry, which lists exactly the inputs of its output (R45). -/

namespace Sys2Proof.Machine

/-! ### Row and column of an S-box input as numbers (R8) -/

theorem toNat_row : ∀ g : Group, (row g).toNat = 2 * (g.toNat / 32) + g.toNat % 2 := by decide

theorem toNat_col : ∀ g : Group, (col g).toNat = g.toNat / 2 % 16 := by decide

/-- The entry of S-box i for the input g by the row and column numbers (R44). -/
theorem sbox_eq_getD (i : Nat) (g : Group) : sbox i g =
    ((rom.sbox.getD i []).getD (2 * (g.toNat / 32) + g.toNat % 2) []).getD (g.toNat / 2 % 16) 0 := by
  rw [sbox, sboxOf, toNat_row, toNat_col]

/-! ### The inverse S-box entries (R45) -/

/-- Check (c) of the table self-test holds of the ROM (R86). -/
theorem sboxesOk_rom : sboxesOk rom = true := by decide +kernel

/-- An inverse S-box entry lists the inputs of its output in ascending order, and there are four (R45). -/
theorem sinv_eq_preimages_and_length {i : Nat} (hi : i < 8) (n : Nibble) :
    sinv i n = preimages rom.sbox i n ∧ (sinv i n).length = 4 := by
  have hok := sboxesOk_rom
  simp only [sboxesOk, List.all_eq_true, List.mem_range, Bool.and_eq_true, beq_iff_eq] at hok
  simpa [sinv] using hok i hi n.toNat n.isLt

theorem mem_preimages_iff (boxes : List (List (List Nibble))) (i : Nat) (n : Nibble) (g : Group) :
    g ∈ preimages boxes i n ↔ sboxOf boxes i g = n := by
  have hg : g ∈ (List.range 64).map (BitVec.ofNat 6) :=
    List.mem_map.mpr ⟨g.toNat, List.mem_range.mpr g.isLt, by simp⟩
  simp [preimages, List.mem_filter, hg]

theorem preimages_ascending (boxes : List (List (List Nibble))) (i : Nat) (n : Nibble) :
    (preimages boxes i n).Pairwise fun g h => g.toNat < h.toNat := by
  refine .filter _ (List.pairwise_map.mpr (List.pairwise_lt_range.imp_of_mem fun ha hb hab => ?_))
  rw [List.mem_range] at ha hb
  simpa [Nat.mod_eq_of_lt ha, Nat.mod_eq_of_lt hb] using hab

/-- An inverse S-box entry is four inputs, ascending, and these are all the inputs of its output. -/
theorem exists_sinv_slots {i : Nat} (hi : i < 8) (n : Nibble) : ∃ p0 p1 p2 p3 : Group, sinv i n = [p0, p1, p2, p3] ∧
    p0.toNat < p1.toNat ∧ p1.toNat < p2.toNat ∧ p2.toNat < p3.toNat ∧
    ∀ g, sbox i g = n ↔ (g = p0 ∨ g = p1 ∨ g = p2 ∨ g = p3) := by
  obtain ⟨heq, hlength⟩ := sinv_eq_preimages_and_length hi n
  have hasc := preimages_ascending rom.sbox i n
  have hmem := mem_preimages_iff rom.sbox i n
  rw [← heq] at hasc hmem
  match hslots : sinv i n, hlength with
  | [p0, p1, p2, p3], _ =>
    rw [hslots] at hasc hmem
    simp only [List.pairwise_cons, List.forall_mem_cons] at hasc
    obtain ⟨⟨h01, -⟩, ⟨h12, -⟩, ⟨h23, -⟩, -⟩ := hasc
    exact ⟨p0, p1, p2, p3, rfl, h01, h12, h23, fun g => by simpa [sbox] using (hmem g).symm⟩

/-! ### The packed entry (R67) -/

/-- Slot k of a packed entry stands in bits 6·k + 5 to 6·k. -/
theorem packPreimages_slot (ps : List Group) {k : Nat} (hk : k < 4) :
    (packPreimages ps).extractLsb' (6 * k) 6 = ps.getD k 0 := by
  unfold packPreimages
  rw [BitVec.extractLsb'_setWidth_of_le (by omega)]
  interval_cases k
  all_goals repeat rw [BitVec.extractLsb'_append_eq_of_le (by decide)]
  all_goals exact BitVec.extractLsb'_append_eq_right

/-- The count of a packed entry stands in bits 26 to 24, under zeros. -/
theorem packPreimages_count (ps : List Group) :
    (packPreimages ps).extractLsb' 24 8 = (BitVec.ofNat 3 ps.length).setWidth 8 := by
  unfold packPreimages
  rw [BitVec.extractLsb'_setWidth_of_le (by decide)]
  repeat rw [BitVec.extractLsb'_append_eq_of_le (by decide)]
  exact BitVec.eq_of_toNat_eq (by simp)

/-! ### SUBST, SBOX and SBOXINV -/

/-- Settles O21: each nibble of S is the S-box of its own group. -/
theorem substWorksInEightLanes : Obligations.SubstWorksInEightLanes := by
  unfold Obligations.SubstWorksInEightLanes
  exact fun s => ⟨_, rfl, rfl, fun i hi => nib_subst s.w48 hi⟩

/-- Settles O22: the model's row and column are the arithmetic ones, and widening keeps the entry. -/
theorem sboxReadsItsEntry : Obligations.SboxReadsItsEntry := by
  unfold Obligations.SboxReadsItsEntry
  refine fun s i => ⟨_, rfl, rfl, ?_⟩
  have hinput : s.sboxInput.toNat = s.lat.arg0.toNat % 64 := by simp [State.sboxInput]
  calc ((sbox i.toNat s.sboxInput).setWidth 32).toNat
      = (sbox i.toNat s.sboxInput).toNat := BitVec.toNat_setWidth_of_le (by decide)
    _ = _ := by rw [sbox_eq_getD, hinput]

/-- Settles O23: the packed entry's slots are the four inputs that ROM_SINV lists. -/
theorem sboxinvPacksThePreimages : Obligations.SboxinvPacksThePreimages := by
  unfold Obligations.SboxinvPacksThePreimages
  intro s i
  obtain ⟨p0, p1, p2, p3, hslots, h01, h12, h23, hmem⟩ := exists_sinv_slots i.isLt s.sboxOutput
  have hexec : exec (.sboxinv i) s = .next (s.writeWord (packPreimages [p0, p1, p2, p3])).completed := by
    rw [← hslots]; rfl
  have hslot (k : Nat) (hk : k < 4) := packPreimages_slot [p0, p1, p2, p3] hk
  refine ⟨_, hexec, rfl, packPreimages_count [p0, p1, p2, p3], ?_⟩
  simp only [State.completed, State.writeWord]
  rw [hslot 0 (by decide), hslot 1 (by decide), hslot 2 (by decide), hslot 3 (by decide)]
  exact ⟨h01, h12, h23, hmem⟩

end Sys2Proof.Machine
end

section
/-! PROOFS. The round function and its verifier (42_round.md R68 to R71): P⁻¹ lays the eight S-box outputs bare, and E turns the
complement of a half-block into the complement of the 48-bit value, which a complemented subkey takes back. -/

namespace Sys2Proof.Machine

/-- E takes every bit of its result from the operand, so it takes XOR to XOR (R39). -/
theorem expand_xor (x y : Word) : expand (x ^^^ y) = expand x ^^^ expand y := by
  refine BitVec.eq_of_getLsbD_eq fun j hj => ?_
  simp only [BitVec.getLsbD_xor, getLsbD_expand_source _ hj]

theorem expand_allOnes : expand 0xFFFFFFFF = 0xFFFFFFFFFFFF := by decide

/-- Settles O24: P⁻¹ undoes the P of the round function, and each nibble of S is the S-box of its own group. -/
theorem roundComputesTheRoundFunction : Obligations.RoundComputesTheRoundFunction := by
  unfold Obligations.RoundComputesTheRoundFunction
  refine fun s => ⟨_, rfl, rfl, rfl, fun i hi => ?_⟩
  calc nib (unpermute (permute (subst (expand s.lat.arg0 ^^^ s.lat.key)))) i
      = nib (subst (expand s.lat.arg0 ^^^ s.lat.key)) i := by rw [unpermute_permute]
    _ = sbox i (group (expand s.lat.arg0 ^^^ s.lat.key) i) := nib_subst _ hi

/-- Settles O25: E commutes with complement, so both complements cancel in E(x) XOR K, the one value the round reads. -/
theorem roundComplementLaw : Obligations.RoundComplementLaw := by
  unfold Obligations.RoundComplementLaw
  intro k x
  have hinput : expand (x ^^^ 0xFFFFFFFF) ^^^ (k ^^^ 0xFFFFFFFFFFFF) = expand x ^^^ k := by
    calc expand (x ^^^ 0xFFFFFFFF) ^^^ (k ^^^ 0xFFFFFFFFFFFF)
        = (expand x ^^^ k) ^^^ (0xFFFFFFFFFFFF ^^^ 0xFFFFFFFFFFFF) := by rw [expand_xor, expand_allOnes]; ac_rfl
      _ = expand x ^^^ k := by rw [BitVec.xor_self, BitVec.xor_zero]
  rw [roundK, roundK, hinput]

/-- Settles O26: VERIFY completes from every state with its verdict as a word, and completion clears BUSY alone in STATUS. -/
theorem verifyComparesTheRound : Obligations.VerifyComparesTheRound := by
  unfold Obligations.VerifyComparesTheRound
  exact fun _ => rfl

end Sys2Proof.Machine
end

section
/-! PROOFS. The search emits the consistent tuples of its candidate sets, and each of them is the groups of E(x) for one preimage x of
the target (43_inverter.md R73 to R76, R81 items 2 and 3). So step 5 rejects no candidate. -/

namespace Sys2Proof.Machine

/-! ### A tuple of eight groups is a 48-bit value (R5) -/

/-- Any eight groups are the groups of a 48-bit value, their concatenation. -/
theorem exists_groups {gs : List Group} (h : gs.length = 8) : ∃ w : Wide, (List.range 8).map (group w) = gs := by
  match gs, h with
  | [g0, g1, g2, g3, g4, g5, g6, g7], _ =>
    refine ⟨g0 ++ g1 ++ g2 ++ g3 ++ g4 ++ g5 ++ g6 ++ g7, ?_⟩
    simp only [List.range, List.range.loop, List.map_cons, List.map_nil, group, List.cons.injEq, and_true]
    refine ⟨?_, ?_, ?_, ?_, ?_, ?_, ?_, ?_⟩
    all_goals repeat rw [BitVec.extractLsb'_append_eq_of_le (by decide)]
    · exact BitVec.extractLsb'_eq_self -- group 0, the leftmost of the concatenation
    all_goals exact BitVec.extractLsb'_append_eq_right

/-- The eight groups of a value assemble to the value. -/
theorem assemble_all_groups (w : Wide) : assemble ((List.range 8).map (group w)) = w := by
  simpa using assemble_groups w le_rfl

theorem getD_groups (w : Wide) {i : Nat} (hi : i < 8) : ((List.range 8).map (group w)).getD i 0 = group w i := by
  simp [hi]

theorem length_groupStack (w : Wide) (n : Nat) : (groupStack w n).length = n := by
  induction n with
  | zero => rfl
  | succ n ih => rw [groupStack, List.length_cons, ih]

theorem exists_groupStack {p : List Group} (h : p.length = 8) : ∃ w, p = groupStack w 8 := by
  obtain ⟨w, hw⟩ := exists_groups (gs := p.reverse) (by simpa using h)
  exact ⟨w, by rw [← List.reverse_reverse p, ← hw, ← reverse_groupStack, List.reverse_reverse]⟩

/-! ### The tuples below a partial assignment (R75) -/

/-- The search only puts groups in front of the partial assignment, one for each set still to choose from. -/
theorem suffix_of_mem_tuplesBelow {Cs : List (List Group)} {p q : List Group} (h : q ∈ tuplesBelow Cs p) :
    p <:+ q ∧ q.length = p.length + Cs.length := by
  induction Cs generalizing p with
  | nil =>
    rw [tuplesBelow_nil] at h
    split at h
    · rw [List.mem_singleton.mp h]
      exact ⟨List.suffix_rfl, rfl⟩
    · exact absurd h List.not_mem_nil
  | cons C Cs ih =>
    obtain ⟨v, -, -, hq⟩ := mem_tuplesBelow_cons.mp h
    obtain ⟨hsuffix, hlength⟩ := ih hq
    refine ⟨(List.suffix_cons v p).trans hsuffix, ?_⟩
    rw [hlength, List.length_cons, List.length_cons]
    omega

theorem groupStack_suffix (w : Wide) {m n : Nat} (h : m ≤ n) : groupStack w m <:+ groupStack w n := by
  induction n, h using Nat.le_induction with
  | base => exact List.suffix_rfl
  | succ n _ ih => exact ih.trans (List.suffix_cons _ _)

/-- The group put in front on the way to a value's tuple is the value's next group. -/
theorem eq_group_of_cons_suffix {w : Wide} {v : Group} {n : Nat} (hn : n < 8)
    (h : v :: groupStack w n <:+ groupStack w 8) : v = group w n := by
  have hlength : (v :: groupStack w n).length = (groupStack w (n + 1)).length := by
    simp [length_groupStack]
  have hsuffix := List.suffix_of_suffix_length_le h (groupStack_suffix w (m := n + 1) hn) hlength.le
  exact (List.cons.inj (hsuffix.eq_of_length hlength)).1

/-- A value's tuple is emitted below the value's first n groups exactly when each later group is in its set and fits the groups before
it, and the whole wraps. -/
theorem groupStack_mem_tuplesBelow_iff {w : Wide} {C : Nat → List Group} {m n : Nat} (hmn : n + m = 8) :
    groupStack w 8 ∈ tuplesBelow ((List.range' n m).map C) (groupStack w n) ↔
      (∀ i, n ≤ i → i < 8 → group w i ∈ C i ∧ fits (groupStack w i) (group w i) = true) ∧ wraps (groupStack w 8) = true := by
  induction m generalizing n with
  | zero =>
    obtain rfl : n = 8 := hmn
    rw [List.range'_zero, List.map_nil, tuplesBelow_nil]
    constructor
    · intro h
      split at h
      next hwraps => exact ⟨fun i h8 hi => absurd hi (by omega), hwraps⟩
      next => exact absurd h List.not_mem_nil
    · rintro ⟨-, hwraps⟩
      rw [if_pos hwraps]
      exact List.mem_singleton_self _
  | succ m ih =>
    rw [List.range'_succ, List.map_cons, mem_tuplesBelow_cons]
    have ih' := ih (n := n + 1) (by omega)
    constructor
    · rintro ⟨v, hv, hfits, hmem⟩
      obtain rfl := eq_group_of_cons_suffix (by omega) (suffix_of_mem_tuplesBelow hmem).1
      obtain ⟨hlater, hwraps⟩ := ih'.mp hmem
      refine ⟨fun i hni hi => ?_, hwraps⟩
      obtain rfl | hlt := hni.eq_or_lt
      · exact ⟨hv, hfits⟩
      · exact hlater i hlt hi
    · rintro ⟨hall, hwraps⟩
      obtain ⟨hv, hfits⟩ := hall n le_rfl (by omega)
      exact ⟨group w n, hv, hfits, ih'.mpr ⟨fun i hni => hall i (by omega), hwraps⟩⟩

/-- The links of a value's tuple and its wrap-around pair are the value's eight adjacencies. -/
theorem consistent_iff_fits (w : Wide) : consistent w = true ↔
    (∀ i < 8, fits (groupStack w i) (group w i) = true) ∧ wraps (groupStack w 8) = true := by
  refine ⟨fun hw => ⟨fun i hi => fits_groupStack hw hi, wraps_groupStack hw⟩, ?_⟩
  rintro ⟨hfits, hwraps⟩
  refine (consistent_iff w).mpr fun i hi => ?_
  obtain rfl | hlt := (show i ≤ 7 by omega).eq_or_lt
  · exact hwraps
  · have hfit := hfits (i + 1) (by omega)
    rw [adj, Nat.mod_eq_of_lt (by omega : i + 1 < 8)]
    exact hfit

/-- A value's tuple is emitted exactly when its groups are in the eight sets and the value is consistent (R75). -/
theorem groupStack_mem_tuples_iff {w : Wide} {C : Nat → List Group} :
    groupStack w 8 ∈ tuplesBelow ((List.range 8).map C) [] ↔ (∀ i < 8, group w i ∈ C i) ∧ consistent w = true := by
  have hmem := groupStack_mem_tuplesBelow_iff (w := w) (C := C) (n := 0) (m := 8) rfl
  rw [List.range_eq_range', consistent_iff_fits]
  refine hmem.trans ⟨?_, ?_⟩
  · rintro ⟨hall, hwraps⟩
    exact ⟨fun i hi => (hall i (Nat.zero_le _) hi).1, fun i hi => (hall i (Nat.zero_le _) hi).2, hwraps⟩
  · rintro ⟨hC, hfits, hwraps⟩
    exact ⟨fun i _ hi => ⟨hC i hi, hfits i hi⟩, hwraps⟩

theorem length_of_mem_tuples {C : Nat → List Group} {p : List Group} (h : p ∈ tuplesBelow ((List.range 8).map C) []) :
    p.length = 8 := by
  simpa using (suffix_of_mem_tuplesBelow h).2

/-- Settles O28: both sides speak of eight groups, which are the groups of the 48-bit value they assemble to. -/
theorem backtrackingFindsTheConsistentTuples : Obligations.BacktrackingFindsTheConsistentTuples := by
  unfold Obligations.BacktrackingFindsTheConsistentTuples
  intro y k gs
  by_cases hlength : gs.length = 8
  · obtain ⟨w, rfl⟩ := exists_groups hlength
    rw [← reverse_groupStack, List.reverse_reverse, groupStack_mem_tuples_iff, reverse_groupStack, assemble_all_groups,
      ← consistent_iff]
    have hsets : (∀ i < 8, ((List.range 8).map (group w)).getD i 0 ∈ candidateSet y k i) ↔
        ∀ i < 8, group w i ∈ candidateSet y k i :=
      forall₂_congr fun i hi => by rw [getD_groups w hi]
    rw [hsets]
    exact (and_iff_right hlength).symm
  · refine iff_of_false (fun hmem => hlength ?_) fun h => hlength h.1
    simpa using length_of_mem_tuples hmem

/-! ### The emitted tuples are the preimages (R81) -/

/-- The inverse S-box entry of n lists the inputs with output n (R45). -/
theorem mem_sinv_iff {i : Nat} (hi : i < 8) (n : Nibble) (g : Group) : g ∈ sinv i n ↔ sbox i g = n := by
  rw [(sinv_eq_preimages_and_length hi n).1, mem_preimages_iff, sbox]

/-- A group is in candidate set i exactly when S-box i takes it, keyed, to nibble i of P⁻¹ of the target (R73, R74). -/
theorem mem_candidateSet_iff {y : Word} {k : Wide} {i : Nat} (hi : i < 8) (g : Group) :
    g ∈ candidateSet y k i ↔ sbox i (g ^^^ group k i) = nib (unpermute y) i := by
  rw [← mem_sinv_iff hi, candidateSet, List.mem_map]
  constructor
  · rintro ⟨u, hu, rfl⟩
    rwa [BitVec.xor_assoc, BitVec.xor_self, BitVec.xor_zero]
  · intro hg
    exact ⟨_, hg, by rw [BitVec.xor_assoc, BitVec.xor_self, BitVec.xor_zero]⟩

/-- A word is its eight nibbles (R6). -/
theorem eq_of_nib_eq {v w : Word} (h : ∀ i < 8, nib v i = nib w i) : v = w := by
  refine BitVec.eq_of_getLsbD_eq fun j hj => ?_
  have hbit := congrArg (·.getLsbD (j % 4)) (h (7 - j / 4) (by omega))
  simp only [getLsbD_nib _ _ (Nat.mod_lt j (by decide : 4 > 0))] at hbit
  rwa [show 4 * (7 - (7 - j / 4)) + j % 4 = j by omega] at hbit

/-- A half-block is a preimage of the target exactly when the groups of its expansion are in the eight candidate sets. -/
theorem roundK_eq_iff {y x : Word} {k : Wide} :
    roundK k x = y ↔ ∀ i < 8, group (expand x) i ∈ candidateSet y k i := by
  refine ⟨fun hx i hi => group_expand_mem_candidateSet hx hi, fun h => ?_⟩
  have hsubst : subst (expand x ^^^ k) = unpermute y := eq_of_nib_eq fun i hi => by
    rw [nib_subst _ hi, group_xor, (mem_candidateSet_iff hi _).mp (h i hi)]
  rw [roundK, hsubst, permute_unpermute]

/-- The search emits the groups of E(x) for the preimages x of the target, and no other tuple. -/
theorem mem_tuples_iff_exists_preimage {y : Word} {k : Wide} {p : List Group} :
    p ∈ tuplesBelow ((List.range 8).map (candidateSet y k)) [] ↔ ∃ x, roundK k x = y ∧ p = groupStack (expand x) 8 := by
  constructor
  · intro hp
    obtain ⟨w, rfl⟩ := exists_groupStack (length_of_mem_tuples hp)
    obtain ⟨hsets, hw⟩ := groupStack_mem_tuples_iff.mp hp
    obtain ⟨x, rfl⟩ := (consistent_iff_exists_expand w).mp hw
    exact ⟨x, roundK_eq_iff.mpr hsets, rfl⟩
  · rintro ⟨x, hx, rfl⟩
    exact groupStack_mem_tuples_iff.mpr ⟨roundK_eq_iff.mp hx, consistent_expand x⟩

/-! ### The finished search has no violation, from wherever it is finished -/

theorem Search.finish_start (y : Word) (k : Wide) : (Search.start y k).finish y k =
    Search.verifyAll y k { Search.start y k with stack := [] } (tuplesBelow ((List.range 8).map (candidateSet y k)) []) := by
  simp [Search.finish, Search.start]

/-- Verification rejects no candidate of the search (R81 item 3). -/
theorem violated_finish_start (y : Word) (k : Wide) : ((Search.start y k).finish y k).violated = false := by
  rw [← Bool.not_eq_true, Search.finish_start, verifyAll_violated]
  rintro (hnone | ⟨p, hp, hround⟩)
  · exact absurd hnone Bool.false_ne_true
  · obtain ⟨x, hx, rfl⟩ := mem_tuples_iff_exists_preimage.mp hp
    exact hround (by rw [candidateOf_groupStack, hx])

/-- However far the search has come, it ends where the search run at once ends (R27, R75). -/
theorem Search.Toward.finish {y : Word} {k : Wide} {σ : Search} (h : σ.Toward y k) :
    σ.finish y k = (Search.start y k).finish y k := by
  obtain ⟨n, rfl⟩ := h
  induction n with
  | zero => rfl
  | succ n ih => rw [Function.iterate_succ_apply', finish_next, ih]

end Sys2Proof.Machine
end

section
/-! PROOFS. The inverter's commands (43_inverter.md R72, R74, R77 to R84): what INVERT starts and what it returns, and ADJCHK. No step
records a soundness violation or a configuration defect (R81, R86). -/

namespace Sys2Proof.Machine

/-! ### INVERT's issue (R74, R77) -/

theorem searchAtIssue_invert (s : State) : searchAtIssue .invert s = .start s.arg0 s.subkey := rfl

theorem searchAtIssue_of_ne_invert {i : Instr} (h : i ≠ .invert) (s : State) : searchAtIssue i s = s.search := if_neg h

/-- Settles O6: the accepted CMD write issues the command, which latches the operands that the search is started on. -/
theorem invertIssueStartsItsSearch : Obligations.InvertIssueStartsItsSearch := by
  unfold Obligations.InvertIssueStartsItsSearch
  intro s c i rest hagenda hacc
  refine ⟨_, step_cmdWrite_of_accepts hagenda hacc, rfl, fun hi => searchAtIssue_of_ne_invert hi _, ?_⟩
  rintro rfl
  exact ⟨rfl, Search.Toward.start _ _, rfl, rfl⟩

/-! ### INVERT's completion (R80, R84) -/

/-- INVERT completes with the results of the search run at once from its start. -/
theorem exec_invert_of_toward {s : State} (h : s.search.Toward s.lat.arg0 s.lat.key) :
    exec .invert s =
      .next (s.writeSearch ((Search.start s.lat.arg0 s.lat.key).finish s.lat.arg0 s.lat.key)).completed := by
  rw [← h.finish]
  rfl

/-- INVERT's effect on STATUS where no violation occurred: OVERFLOW alone may be recorded (R79). -/
theorem Status.release_searched_of_sound (overflows : Bool) (t : Status) : (t.searched false overflows).release =
    if overflows = true then { t with busy := false, ovf := true, err := true, errCode := .overflow }
    else { t with busy := false } := by
  cases overflows <;> simp [Status.searched, Status.record, Status.release]

/-- STATUS after INVERT: the search has found no violation (R78, R79, R81). -/
theorem status_completed_invert (s : State) (y : Word) (k : Wide) :
    (s.writeSearch ((Search.start y k).finish y k)).completed.status =
      if 16 < ((Search.start y k).finish y k).found.length
        then { s.status with busy := false, ovf := true, err := true, errCode := .overflow }
        else { s.status with busy := false } := by
  rw [State.completed_status, State.writeSearch_status, violated_finish_start, Status.release_searched_of_sound]
  simp [Search.overflows]

theorem toNat_res0_writeSearch (σ : Search) (s : State) : (s.writeSearch σ).res0.toNat = min σ.found.length 16 := by
  rw [State.writeSearch_res0, BitVec.toNat_ofNat, storedCount]
  omega

/-- INVERT's completion changes the search, the results, STATUS and the phase alone (R53). -/
theorem completed_writeSearch_frame (σ : Search) (s : State) {t : State} (ht : t = (s.writeSearch σ).completed) :
    t = { s with search := t.search, cand := t.cand, cnt := t.cnt, res0 := t.res0, res1 := t.res1, status := t.status,
                 phase := .idle } := by
  rw [ht]
  rfl

/-- Settles O30: the finished search holds the preimages in ascending order, and INVERT's writes copy them. -/
theorem invertReturnsThePreimages : Obligations.InvertReturnsThePreimages := by
  unfold Obligations.InvertReturnsThePreimages
  intro s hsearch
  exact ⟨_, _, exec_invert_of_toward hsearch, ascending_found_finish_start _ _, fun _ => mem_found_finish_start,
    getElem_cand_writeSearch _ s, toNat_cnt_writeSearch _ s, toNat_res0_writeSearch _ s, rfl,
    status_completed_invert s _ _, completed_writeSearch_frame _ s rfl⟩

/-- CNT is 0 exactly when the search found no candidate. -/
theorem cnt_writeSearch_eq_zero_iff (σ : Search) (s : State) : (s.writeSearch σ).cnt = 0 ↔ σ.found = [] := by
  have hzero : (s.writeSearch σ).cnt = 0 ↔ (s.writeSearch σ).cnt.toNat = 0 := BitVec.toNat_inj.symm
  rw [hzero, toNat_cnt_writeSearch, ← List.length_eq_zero_iff]
  omega

/-- Settles O31: an empty search result has CNT, RES0 and the buffer 0, and neither a violation nor an overflow to record. -/
theorem emptyInversionIsNoError : Obligations.EmptyInversionIsNoError := by
  unfold Obligations.EmptyInversionIsNoError
  intro s hsearch
  refine ⟨_, exec_invert_of_toward hsearch, ?_, fun hcnt => ?_⟩
  · refine (cnt_writeSearch_eq_zero_iff _ s).trans ?_
    simp only [List.eq_nil_iff_forall_not_mem, mem_found_finish_start, ne_eq]
  · have hfound := (cnt_writeSearch_eq_zero_iff _ s).mp hcnt
    refine ⟨?_, fun j => ?_, ?_⟩
    · rw [State.completed_res0, State.writeSearch_res0, hfound]
      rfl
    · refine (getElem_cand_writeSearch _ s j).trans ?_
      rw [hfound, List.getD_nil]
    · rw [status_completed_invert, hfound, if_neg (by simp)]

/-! ### ADJCHK (R83) -/

theorem getLsbD_adjMask (w : Wide) {i : Nat} (hi : i < 8) : (adjMask w).getLsbD i = adj w i := by
  rw [adjMask, BitVec.getLsbD_setWidth, BitVec.getLsbD_ofBoolListLE]
  simp [hi]

/-- ADJCHK's mask is full exactly when the value is consistent. -/
theorem adjMask_eq_allOnes_iff (w : Wide) : adjMask w = BitVec.allOnes 8 ↔ consistent w = true := by
  rw [consistent_iff]
  constructor
  · intro h i hi
    rw [← getLsbD_adjMask w hi, h, BitVec.getLsbD_allOnes, decide_eq_true hi]
  · intro h
    refine BitVec.eq_of_getLsbD_eq fun i hi => ?_
    rw [getLsbD_adjMask w hi, h i hi, BitVec.getLsbD_allOnes, decide_eq_true hi]

theorem setWidth_eq_ff_iff (m : BitVec 8) : m.setWidth 32 = 0x000000FF ↔ m = BitVec.allOnes 8 := by
  revert m
  decide

theorem exec_adjchk (s : State) : exec .adjchk s = .next (s.writeWord ((adjMask s.w48).setWidth 32)).completed := rfl

/-- A completion with a result of 32 bits writes RES0 and RES1 and ends the command (R52, R55). -/
theorem completed_writeWord (r : Word) (s : State) : (s.writeWord r).completed =
    { s with res0 := r, res1 := 0, phase := .idle, status := { s.status with busy := false } } := rfl

/-- Settles O27: the mask's bits are the adjacencies, and all eight hold exactly for E of a half-block. -/
theorem adjchkReportsTheAdjacencies : Obligations.AdjchkReportsTheAdjacencies := by
  unfold Obligations.AdjchkReportsTheAdjacencies
  refine fun s => ⟨_, exec_adjchk s, ?_⟩
  rw [State.completed_res0, State.writeWord_res0]
  refine ⟨completed_writeWord _ s, fun i hi => ?_, fun i hi => ?_, ?_⟩
  · rw [BitVec.getLsbD_setWidth, decide_eq_true (show i < 32 by omega), Bool.true_and, getLsbD_adjMask _ hi]
    exact adj_iff s.w48 i
  · exact getLsbD_setWidth_of_le _ _ hi
  · exact (setWidth_eq_ff_iff _).trans ((adjMask_eq_allOnes_iff _).trans (consistent_iff_exists_expand _))

/-! ### No defect is recorded (R81, R86) -/

theorem permutationsOk_rom : permutationsOk rom = true := by decide +kernel

theorem expansionOk_rom : expansionOk rom = true := by decide +kernel

/-- The ROM passes its self-test (R86). -/
theorem tablesOk_rom : tablesOk rom = true := by
  rw [tablesOk, permutationsOk_rom, expansionOk_rom, sboxesOk_rom]
  rfl

/-- SOUND and CFG_FAULT are 0. -/
def Status.Clean (t : Status) : Prop := t.sound = false ∧ t.cfgFault = false

/-- The steps that leave SOUND and CFG_FAULT of STATUS leave it clean. -/
theorem Status.Clean.congr {t u : Status} (h : t.Clean) (hsound : u.sound = t.sound := by rfl)
    (hfault : u.cfgFault = t.cfgFault := by rfl) : u.Clean := ⟨hsound.trans h.1, hfault.trans h.2⟩

theorem Status.Clean.clear {t : Status} (h : t.Clean) (v : Word) : (t.clear v).Clean :=
  ⟨by rw [Status.clear_sound, h.1, Bool.false_and], by rw [Status.clear_cfgFault, h.2]⟩

theorem Status.Clean.searched {t : Status} (h : t.Clean) (overflows : Bool) : (t.searched false overflows).Clean := by
  obtain ⟨hsound, -, -, -, -, -, hfault⟩ := Status.searched_fields false overflows t
  exact h.congr (hsound.trans (Bool.or_false _)) hfault

theorem clean_writeWordAt {s : State} (h : s.status.Clean) (k : Nat) (v : Word) : (s.writeWordAt k v).status.Clean := by
  obtain heq | heq | heq | heq | heq | heq | heq := writeWordAt_cases s k v <;> simp only [heq]
  case inr.inl =>
    obtain ⟨e, -, hreject⟩ | ⟨i, -, hissue⟩ := cmdWrite_cases s v
    · rw [hreject, State.reject_status]; exact h.congr
    · rw [hissue, State.issue_status]; exact h.congr
  case inr.inr.inl => rw [State.statusWrite_status]; exact h.clear v
  all_goals exact h

/-- The self-test passes on the ROM, so its end leaves CFG_FAULT 0. -/
theorem clean_selfTestDone {s : State} (h : s.status.Clean) : (s.selfTestDone (tablesOk rom)).status.Clean := by
  rw [tablesOk_rom]
  exact h.congr rfl h.2.symm

/-- A completion leaves STATUS clean: INVERT's search has found no violation, whatever its progress. -/
theorem clean_exec {s t : State} (hinv : s.Inv) (h : s.status.Clean) {i : Instr} (hphase : s.phase = .run i)
    (hexec : exec i s = .next t) : t.status.Clean := by
  obtain ⟨-, rfl⟩ | ⟨-, rfl⟩ | ⟨rfl, rfl⟩ | ⟨-, -, -, r0, r1, rfl⟩ := exec_cases hexec
  · rw [State.completed_status]; exact h.congr
  · exact clean_selfTestDone h
  · have hsearch := (hinv.running .invert hphase).search rfl
    rw [State.completed_status, State.writeSearch_status, hsearch.finish, violated_finish_start]
    exact (h.searched _).congr (Status.release_sound _) (Status.release_cfgFault _)
  · rw [State.completed_status]; exact h.congr

theorem clean_engineComplete {s t : State} (hinv : s.Inv) (h : s.status.Clean) (hstep : s.engineComplete = .next t) :
    t.status.Clean := by
  obtain ⟨-, rfl⟩ | ⟨i, hphase, hexec⟩ | ⟨-, rfl⟩ := engineComplete_cases hstep
  · exact h
  · exact clean_exec hinv h hphase hexec
  · exact clean_selfTestDone h

theorem clean_searchAdvance {s : State} (h : s.status.Clean) : s.searchAdvance.status.Clean := by
  unfold State.searchAdvance
  split <;> exact h

theorem clean_handle {e : Event} {s t : State} (hinv : s.Inv) (h : s.status.Clean) (hstep : State.handle e s = .next t) :
    t.status.Clean := by
  obtain ⟨k, v, rfl⟩ | ⟨k, rfl⟩ | hcomplete | ⟨v, hcomplete⟩ | rfl | rfl := handle_cases hstep
  · exact clean_writeWordAt h k v
  · rw [readWord_frame]; exact h
  · exact clean_engineComplete hinv h hcomplete
  · exact clean_engineComplete (inv_statusWrite hinv v) (h.clear v) hcomplete
  · exact clean_searchAdvance h
  · exact ⟨rfl, rfl⟩

/-- Settles O53: a step is a completion or one event of the agenda; the ROM passes its self-test and the search finds no violation. -/
theorem stepKeepsNoDefect : Obligations.StepKeepsNoDefect := by
  unfold Obligations.StepKeepsNoDefect
  intro s t ⟨hinv, hsound, hfault⟩ hstep
  have hclean : t.status.Clean := by
    obtain ⟨-, hcomplete⟩ | ⟨e, rest, -, hevent⟩ := step_cases hstep
    · exact clean_engineComplete hinv ⟨hsound, hfault⟩ hcomplete
    · exact clean_handle (s := { s with agenda := rest }) (hinv.congr hinv.codeOk) ⟨hsound, hfault⟩ hevent
  exact ⟨stepKeepsTheInvariant s t hinv hstep, hclean.1, hclean.2⟩

end Sys2Proof.Machine
end

section
/-! PROOFS. No target has more than sixteen preimages (43_inverter.md R79, R81 item 5). The search emits one tuple for each preimage, and
a tuple is a closed path through eight candidate sets, the pair of bits that neighbouring groups share being its station. For the paths
through the sets of groups i to 7 a 4 × 4 table bounds the number by first and last station. A subkey only renames the stations of a
set, by XOR, so a short list of tables covers every target and subkey, and the kernel evaluates that the lists follow from each other,
S-box by S-box, and that the last of them closes to sixteen paths at most. -/

namespace Sys2Proof.Machine

/-! ### Counting the emitted tuples by shared pairs (R9, R75) -/

/-- The low pairs of the groups of C whose high pair is a: where a path can go from the station a. -/
def nextPairs (C : List Group) (a : BitVec 2) : List (BitVec 2) := (C.filter fun v => a == hi2 v).map lo2

/-- The number of paths from a to z with a group of C first, P b z being the number from b to z after it. -/
def prepend (C : List Group) (P : BitVec 2 → BitVec 2 → Nat) (a z : BitVec 2) : Nat :=
  (nextPairs C a).foldr (fun b n => P b z + n) 0

/-- The number of paths from a to z through the sets, a group of each in turn. -/
def pathCount : List (List Group) → BitVec 2 → BitVec 2 → Nat
  | [], a, z => if a = z then 1 else 0
  | C :: Cs, a, z => prepend C (pathCount Cs) a z

/-- The number of closed paths with a group of C first, P a z being the number from a to z after it. -/
def ringCount (C : List Group) (P : BitVec 2 → BitVec 2 → Nat) : Nat := C.foldr (fun v n => P (lo2 v) (hi2 v) + n) 0

/-- The tuples below a partial assignment are the paths from its newest group's low pair to its first group's high pair. -/
theorem length_tuplesBelow_cons {Cs : List (List Group)} {g g0 : Group} {p : List Group} (h : (g :: p).getLast? = some g0) :
    (tuplesBelow Cs (g :: p)).length = pathCount Cs (lo2 g) (hi2 g0) := by
  induction Cs generalizing g p with
  | nil =>
    simp only [tuplesBelow_nil, wraps, List.head?_cons, h, pathCount, beq_iff_eq]
    split <;> rfl
  | cons C Cs ih =>
    have hlast (v : Group) : (tuplesBelow Cs (v :: g :: p)).length = pathCount Cs (lo2 v) (hi2 g0) :=
      ih (by rw [List.getLast?_cons_cons, h])
    simp only [tuplesBelow, extend, List.length_flatMap, List.map_map, pathCount, prepend, nextPairs, List.foldr_map]
    rw [List.sum, List.foldr_map]
    simp only [Function.comp_apply, hlast]
    rfl

/-- The tuples below the empty assignment are the closed paths. -/
theorem length_tuplesBelow_nil (C : List Group) (Cs : List (List Group)) :
    (tuplesBelow (C :: Cs) []).length = ringCount C (pathCount Cs) := by
  have hpath (v : Group) : (tuplesBelow Cs [v]).length = pathCount Cs (lo2 v) (hi2 v) := length_tuplesBelow_cons rfl
  have hfits : C.filter (fits []) = C := List.filter_eq_self.mpr fun _ _ => rfl
  simp [tuplesBelow, extend, hfits, ringCount, List.length_flatMap, List.sum, List.foldr_map, hpath]

/-! ### What bounds and subkeys do to the counts -/

theorem prepend_le (C : List Group) {P Q : BitVec 2 → BitVec 2 → Nat} (h : ∀ b z, P b z ≤ Q b z) (a z : BitVec 2) :
    prepend C P a z ≤ prepend C Q a z := by
  unfold prepend
  induction nextPairs C a with
  | nil => exact le_rfl
  | cons b bs ih => exact Nat.add_le_add (h b z) ih

theorem ringCount_le (C : List Group) {P Q : BitVec 2 → BitVec 2 → Nat} (h : ∀ b z, P b z ≤ Q b z) :
    ringCount C P ≤ ringCount C Q := by
  unfold ringCount
  induction C with
  | nil => exact le_rfl
  | cons v C ih => exact Nat.add_le_add (h _ _) ih

theorem hi2_xor (u v : Group) : hi2 (u ^^^ v) = hi2 u ^^^ hi2 v := BitVec.extractLsb'_xor

theorem lo2_xor (u v : Group) : lo2 (u ^^^ v) = lo2 u ^^^ lo2 v := BitVec.extractLsb'_xor

theorem nextPairs_xor (C : List Group) (g : Group) (a : BitVec 2) :
    nextPairs (C.map (· ^^^ g)) a = (nextPairs C (a ^^^ hi2 g)).map (· ^^^ lo2 g) := by
  have hpair (v : Group) : (a == hi2 (v ^^^ g)) = (a ^^^ hi2 g == hi2 v) := by
    rw [hi2_xor, Bool.eq_iff_iff, beq_iff_eq, beq_iff_eq]
    constructor
    · rintro rfl
      rw [BitVec.xor_assoc, BitVec.xor_self, BitVec.xor_zero]
    · intro h
      rw [← h, BitVec.xor_assoc, BitVec.xor_self, BitVec.xor_zero]
  simp [nextPairs, List.filter_map, Function.comp_def, hpair, lo2_xor]

/-- A subkey group renames the stations on both sides of its set. -/
theorem prepend_xor (C : List Group) (g : Group) (P : BitVec 2 → BitVec 2 → Nat) (a z : BitVec 2) :
    prepend (C.map (· ^^^ g)) P a z = prepend C (fun b z => P (b ^^^ lo2 g) z) (a ^^^ hi2 g) z := by
  rw [prepend, nextPairs_xor, List.foldr_map]
  rfl

theorem ringCount_xor (C : List Group) (g : Group) (P : BitVec 2 → BitVec 2 → Nat) :
    ringCount (C.map (· ^^^ g)) P = ringCount C (fun a z => P (a ^^^ lo2 g) (z ^^^ hi2 g)) := by
  simp only [ringCount, List.foldr_map, hi2_xor, lo2_xor]

/-! ### The path tables -/

/-- A bound for a number of paths: row by first station, column by last station. -/
abbrev PathTable := List (List Nat)

def PathTable.bound (T : PathTable) (a z : BitVec 2) : Nat := (T.getD a.toNat []).getD z.toNat 0

/-- The table bounds the numbers of paths, its stations renamed by XOR on each side. -/
def PathTable.Bounds (T : PathTable) (P : BitVec 2 → BitVec 2 → Nat) : Prop :=
  ∃ r s, ∀ a z, P a z ≤ T.bound (a ^^^ r) (z ^^^ s)

/-- Bounds for the paths through the sets of groups i to 7, whatever the target and the subkey. How they were found does not matter:
`tablesFollow` and `ringsBounded` are all that is used of them. -/
def pathTables : Nat → List PathTable
  | 1 => [[[4, 4, 4, 4], [4, 4, 4, 4], [4, 4, 4, 4], [4, 4, 4, 4]], [[0, 0, 0, 0], [8, 8, 8, 8], [0, 0, 0, 0], [8, 8, 8, 8]]]
  | 2 => [[[4, 4, 4, 4], [0, 0, 0, 0], [4, 4, 4, 4], [0, 0, 0, 0]], [[0, 0, 0, 0], [4, 4, 4, 4], [4, 4, 4, 4], [0, 0, 0, 0]],
          [[4, 4, 4, 4], [0, 0, 0, 0], [2, 2, 2, 2], [2, 2, 2, 2]], [[2, 2, 2, 2], [2, 2, 2, 2], [2, 2, 2, 2], [2, 2, 2, 2]]]
  | 3 => [[[2, 2, 2, 2], [2, 2, 2, 2], [2, 2, 2, 2], [2, 2, 2, 2]], [[4, 4, 4, 4], [0, 0, 0, 0], [4, 4, 4, 4], [0, 0, 0, 0]]]
  | 4 => [[[0, 0, 0, 0], [2, 2, 2, 2], [0, 0, 0, 0], [2, 2, 2, 2]], [[2, 2, 2, 2], [0, 0, 0, 0], [1, 1, 1, 1], [1, 1, 1, 1]],
          [[2, 2, 2, 2], [0, 0, 0, 0], [0, 0, 1, 0], [2, 2, 1, 2]], [[2, 2, 1, 2], [0, 0, 0, 0], [2, 2, 1, 2], [0, 0, 1, 0]],
          [[1, 1, 1, 1], [1, 1, 1, 1], [1, 1, 1, 1], [1, 1, 1, 1]], [[0, 0, 0, 0], [2, 2, 2, 2], [2, 2, 2, 2], [0, 0, 0, 0]]]
  | 5 => [[[1, 1, 1, 1], [1, 1, 1, 1], [1, 1, 1, 1], [1, 1, 1, 1]], [[2, 2, 1, 2], [0, 0, 1, 0], [2, 2, 1, 2], [0, 0, 0, 0]]]
  | 6 => [[[1, 1, 1, 1], [0, 0, 0, 0], [1, 1, 1, 1], [0, 0, 0, 0]], [[1, 1, 0, 1], [0, 0, 1, 0], [0, 0, 0, 0], [1, 1, 1, 1]],
          [[0, 0, 1, 0], [1, 1, 0, 1], [0, 0, 1, 0], [1, 1, 0, 1]], [[1, 1, 0, 0], [0, 0, 1, 1], [1, 1, 0, 0], [0, 0, 1, 1]],
          [[1, 0, 0, 0], [0, 0, 0, 1], [0, 0, 0, 1], [0, 0, 1, 0]]]
  | 7 => [[[1, 1, 0, 1], [0, 0, 0, 0], [1, 1, 0, 1], [0, 0, 1, 0]], [[1, 1, 1, 0], [0, 0, 0, 0], [1, 0, 1, 1], [0, 0, 0, 0]],
          [[1, 0, 0, 0], [0, 0, 0, 1], [0, 0, 1, 0], [0, 0, 0, 1]], [[0, 0, 1, 1], [0, 0, 0, 0], [0, 0, 0, 0], [1, 1, 0, 0]]]
  | 8 => [[[1, 0, 0, 0], [0, 1, 0, 0], [0, 0, 1, 0], [0, 0, 0, 1]]]
  | _ => []

/-- All four values of a shared pair, written out, which the kernel evaluates faster than a list of them. -/
def allPairs (p : BitVec 2 → Bool) : Bool := p 0 && (p 1 && (p 2 && p 3))

def anyPair (p : BitVec 2 → Bool) : Bool := p 0 || (p 1 || (p 2 || p 3))

/-- `PathTable.Bounds`, evaluated. -/
def PathTable.boundsB (T : PathTable) (P : BitVec 2 → BitVec 2 → Nat) : Bool :=
  anyPair fun r => anyPair fun s => allPairs fun a => allPairs fun z => Nat.ble (P a z) (T.bound (a ^^^ r) (z ^^^ s))

/-- Each inverse S-box entry of S-box i, put in front of each table for the groups after i, is bounded by a table for the groups from i. -/
def tablesFollow (i : Nat) : Bool :=
  (List.range 16).all fun n => (pathTables (i + 1)).all fun T => allPairs fun c =>
    (pathTables i).any fun U => U.boundsB (prepend (sinv i (BitVec.ofNat 4 n)) fun b z => T.bound (b ^^^ c) z)

/-- Each inverse S-box entry of S-box 0 closes each table for the groups from 1 to sixteen paths at most. -/
def ringsBounded : Bool :=
  (List.range 16).all fun n => (pathTables 1).all fun T => allPairs fun c => allPairs fun d =>
    Nat.ble (ringCount (sinv 0 (BitVec.ofNat 4 n)) fun a z => T.bound (a ^^^ c) (z ^^^ d)) 16

theorem tablesFollow_all : (List.range' 1 7).all tablesFollow = true := by decide +kernel

theorem ringsBounded_all : ringsBounded = true := by decide +kernel

/-! ### What the evaluations say -/

theorem pair_cases : ∀ a : BitVec 2, a = 0 ∨ a = 1 ∨ a = 2 ∨ a = 3 := by decide

theorem allPairs_iff {p : BitVec 2 → Bool} : allPairs p = true ↔ ∀ a, p a = true := by
  simp only [allPairs, Bool.and_eq_true]
  refine ⟨fun ⟨h0, h1, h2, h3⟩ a => ?_, fun h => ⟨h 0, h 1, h 2, h 3⟩⟩
  obtain rfl | rfl | rfl | rfl := pair_cases a <;> assumption

theorem exists_of_anyPair {p : BitVec 2 → Bool} (h : anyPair p = true) : ∃ a, p a = true := by
  simp only [anyPair, Bool.or_eq_true] at h
  obtain h | h | h | h := h <;> exact ⟨_, h⟩

theorem PathTable.bounds_of_boundsB {T : PathTable} {P : BitVec 2 → BitVec 2 → Nat} (h : T.boundsB P = true) : T.Bounds P := by
  obtain ⟨r, hr⟩ := exists_of_anyPair h
  obtain ⟨s, hs⟩ := exists_of_anyPair hr
  exact ⟨r, s, fun a z => Nat.le_of_ble_eq_true (allPairs_iff.mp (allPairs_iff.mp hs a) z)⟩

theorem exists_table_of_tablesFollow {i : Nat} (h1 : 1 ≤ i) (h8 : i < 8) {T : PathTable} (hT : T ∈ pathTables (i + 1))
    (n : Nibble) (c : BitVec 2) : ∃ U ∈ pathTables i, U.Bounds (prepend (sinv i n) fun b z => T.bound (b ^^^ c) z) := by
  have hfollow := List.all_eq_true.mp tablesFollow_all i (List.mem_range'_1.mpr (by omega))
  simp only [tablesFollow, List.all_eq_true, List.mem_range] at hfollow
  obtain ⟨U, hU, hbounds⟩ := List.any_eq_true.mp (allPairs_iff.mp (hfollow n.toNat n.isLt T hT) c)
  rw [BitVec.ofNat_toNat, BitVec.setWidth_eq] at hbounds
  exact ⟨U, hU, PathTable.bounds_of_boundsB hbounds⟩

theorem ringCount_sinv_le {T : PathTable} (hT : T ∈ pathTables 1) (n : Nibble) (c d : BitVec 2) :
    ringCount (sinv 0 n) (fun a z => T.bound (a ^^^ c) (z ^^^ d)) ≤ 16 := by
  have hrings := ringsBounded_all
  simp only [ringsBounded, List.all_eq_true, List.mem_range] at hrings
  have hle := allPairs_iff.mp (allPairs_iff.mp (hrings n.toNat n.isLt T hT) c) d
  rw [BitVec.ofNat_toNat, BitVec.setWidth_eq] at hle
  exact Nat.le_of_ble_eq_true hle

/-! ### The bound -/

/-- One candidate set more in front: its subkey group only shifts the stations of the table that bounds the rest. -/
theorem exists_table_prepend {i : Nat} (h1 : 1 ≤ i) (h8 : i < 8) {T : PathTable} (hT : T ∈ pathTables (i + 1))
    {P : BitVec 2 → BitVec 2 → Nat} (hP : T.Bounds P) (y : Word) (k : Wide) :
    ∃ U ∈ pathTables i, U.Bounds (prepend (candidateSet y k i) P) := by
  obtain ⟨r, s, hle⟩ := hP
  obtain ⟨U, hU, r', s', hle'⟩ := exists_table_of_tablesFollow h1 h8 hT (nib (unpermute y) i) (lo2 (group k i) ^^^ r)
  refine ⟨U, hU, hi2 (group k i) ^^^ r', s ^^^ s', fun a z => ?_⟩
  calc prepend (candidateSet y k i) P a z
      = prepend (sinv i (nib (unpermute y) i)) (fun b z => P (b ^^^ lo2 (group k i)) z) (a ^^^ hi2 (group k i)) z :=
        prepend_xor _ _ _ _ _
    _ ≤ prepend (sinv i (nib (unpermute y) i)) (fun b z => T.bound (b ^^^ (lo2 (group k i) ^^^ r)) (z ^^^ s))
          (a ^^^ hi2 (group k i)) z := prepend_le _ (fun b z => by rw [← BitVec.xor_assoc]; exact hle _ z) _ _
    _ ≤ U.bound (a ^^^ hi2 (group k i) ^^^ r') (z ^^^ s ^^^ s') := hle' _ (z ^^^ s)
    _ = U.bound (a ^^^ (hi2 (group k i) ^^^ r')) (z ^^^ (s ^^^ s')) := by rw [BitVec.xor_assoc, BitVec.xor_assoc]

/-- The table of the empty path: it ends where it begins. -/
theorem bounds_pathCount_nil : PathTable.Bounds [[1, 0, 0, 0], [0, 1, 0, 0], [0, 0, 1, 0], [0, 0, 0, 1]] (pathCount []) :=
  PathTable.bounds_of_boundsB (by decide)

/-- Some table bounds the paths through the candidate sets from group i on. -/
theorem exists_table_pathCount (y : Word) (k : Wide) {i m : Nat} (h1 : 1 ≤ i) (him : i + m = 8) :
    ∃ T ∈ pathTables i, T.Bounds (pathCount ((List.range' i m).map (candidateSet y k))) := by
  induction m generalizing i with
  | zero =>
    obtain rfl : i = 8 := him
    exact ⟨_, List.mem_singleton_self _, bounds_pathCount_nil⟩
  | succ m ih =>
    obtain ⟨T, hT, hbounds⟩ := ih (i := i + 1) (by omega) (by omega)
    exact exists_table_prepend h1 (by omega) hT hbounds y k

/-- The search emits sixteen tuples at most. -/
theorem length_tuples_le (y : Word) (k : Wide) : (tuplesBelow ((List.range 8).map (candidateSet y k)) []).length ≤ 16 := by
  obtain ⟨T, hT, r, s, hle⟩ := exists_table_pathCount y k (i := 1) (m := 7) le_rfl rfl
  have hsets : (List.range 8).map (candidateSet y k) = candidateSet y k 0 :: (List.range' 1 7).map (candidateSet y k) := rfl
  rw [hsets, length_tuplesBelow_nil, candidateSet, ringCount_xor]
  refine (ringCount_le _ fun a z => ?_).trans
    (ringCount_sinv_le hT (nib (unpermute y) 0) (lo2 (group k 0) ^^^ r) (hi2 (group k 0) ^^^ s))
  rw [← BitVec.xor_assoc, ← BitVec.xor_assoc]
  exact hle _ _

/-- Different half-blocks are emitted as different tuples. -/
theorem groupStack_expand_injective : Function.Injective fun x => groupStack (expand x) 8 :=
  Function.LeftInverse.injective candidateOf_groupStack

/-- Distinct preimages of a target are distinct emitted tuples, so there are sixteen at most (R81 item 5). -/
theorem length_preimages_le {y : Word} {k : Wide} {L : List Word} (hnodup : L.Nodup) (hL : ∀ x ∈ L, roundK k x = y) :
    L.length ≤ 16 := by
  have hsubset : L.map (fun x => groupStack (expand x) 8) ⊆ tuplesBelow ((List.range 8).map (candidateSet y k)) [] := by
    intro p hp
    obtain ⟨x, hx, rfl⟩ := List.mem_map.mp hp
    exact mem_tuples_iff_exists_preimage.mpr ⟨x, hL x hx, rfl⟩
  calc L.length = (L.map fun x => groupStack (expand x) 8).length := List.length_map _ |>.symm
    _ ≤ (tuplesBelow ((List.range 8).map (candidateSet y k)) []).length :=
      ((hnodup.map groupStack_expand_injective).subperm hsubset).length_le
    _ ≤ 16 := length_tuples_le y k

theorem Ascending.nodup {l : List Word} (h : Ascending l) : l.Nodup :=
  h.imp fun hlt heq => hlt.ne (congrArg BitVec.toNat heq)

/-- Settles O33: the path tables bound the preimages, and the finished search holds each of them once. -/
theorem atMostSixteenPreimages : Obligations.AtMostSixteenPreimages := by
  unfold Obligations.AtMostSixteenPreimages
  refine ⟨fun y k L => length_preimages_le, fun y k => ?_⟩
  exact length_preimages_le (ascending_found_finish_start y k).nodup fun x => mem_found_finish_start.mp

end Sys2Proof.Machine
end

section
/-! PROOFS. Control (44_control.md R85 to R88; 70_reset_and_hazards.md R100): NOP and SELFTEST, what the table checks say of any ROM, the
gate of CFG_FAULT on commands, and what can change CFG_FAULT. -/

namespace Sys2Proof.Machine

/-! ### NOP and SELFTEST (R85, R87) -/

/-- Settles O34: NOP's completion is the end of the command alone. -/
theorem nopOnlyCompletes : Obligations.NopOnlyCompletes := by
  unfold Obligations.NopOnlyCompletes
  intro s
  rfl

/-- A self-test that passes sets CFG_OK, clears CFG_FAULT, and ends (R87, R101). -/
theorem selfTestDone_passed (s : State) : s.selfTestDone true =
    { s with phase := .idle, status := { s.status with cfgOk := true, cfgFault := false, busy := false } } := rfl

/-- SELFTEST's completion is a self-test's end with CORE's verdict on its own tables (R87). -/
theorem exec_selftest (s : State) : exec .selftest s = .next (s.selfTestDone (tablesOk rom)) := rfl

/-- Settles O35: the ROM passes its self-test. -/
theorem selftestPassesOnTheRom : Obligations.SelftestPassesOnTheRom := by
  unfold Obligations.SelftestPassesOnTheRom
  intro s
  rw [exec_selftest, tablesOk_rom, selfTestDone_passed]

/-! ### The table checks, for any ROM (R86) -/

theorem mem_upTo {a b k : Nat} : k ∈ upTo a b ↔ a ≤ k ∧ k ≤ b := by
  simp only [upTo, List.mem_map, List.mem_range]
  constructor
  · rintro ⟨n, hn, rfl⟩
    omega
  · rintro ⟨ha, hb⟩
    exact ⟨k - a, by omega, by omega⟩

/-- An entry that is there is counted from 1 and read at the index one less (R38). -/
theorem getD_of_entry {T : List (BitVec 6)} {k : Nat} {v : BitVec 6} (h : entry T k = some v) :
    1 ≤ k ∧ k ≤ T.length ∧ T.getD (k - 1) 0 = v := by
  unfold entry at h
  split at h
  · cases h
  · obtain ⟨hlt, -⟩ := List.getElem?_eq_some_iff.mp h
    exact ⟨by omega, by omega, by rw [List.getD_eq_getElem?_getD, h, Option.getD_some]⟩

/-- The check ROM_T[ROM_U[j]] = j holds of entries that are there (R86). -/
theorem undoes_iff {T U : List (BitVec 6)} {j : Nat} :
    undoes T U j = true ↔ ∃ u, entry U j = some u ∧ ∃ v, entry T u.toNat = some v ∧ v.toNat = j := by
  unfold undoes
  cases entry U j <;> simp

/-- Selection by T, then by a table U whose entries are positions where T placed each input bit, gives the input back. -/
theorem sel_sel_of_undoes {m n : Nat} {T U : List (BitVec 6)} (hT : T.length = m) (hU : U.length = n)
    (h : ∀ j, 1 ≤ j → j ≤ n → undoes T U j = true) (v : BitVec n) : sel n U (sel m T v) = v := by
  refine BitVec.eq_of_getLsbD_eq fun b hb => ?_
  obtain ⟨u, hu, t, ht, hback⟩ := undoes_iff.mp (h (n - b) (by omega) (by omega))
  obtain ⟨-, -, hUget⟩ := getD_of_entry hu
  obtain ⟨hpos, hle, hTget⟩ := getD_of_entry ht
  rw [hT] at hle
  calc (sel n U (sel m T v)).getLsbD b
      = (sel m T v).getLsbD (m - (U.getD (n - b - 1) 0).toNat) := by
        rw [getLsbD_sel _ hU hb, Nat.sub_right_comm]
    _ = v.getLsbD (n - (T.getD (m - 1 - (m - u.toNat)) 0).toNat) := by
        rw [hUget, getLsbD_sel _ hT (by omega)]
    _ = v.getLsbD (n - (n - b)) := by
        rw [show m - 1 - (m - u.toNat) = u.toNat - 1 by omega, hTget, hback]
    _ = v.getLsbD b := by rw [Nat.sub_sub_self hb.le]

/-- Check (a) has each of P and P⁻¹ undo the other, entry by entry (R86). -/
theorem undoes_of_permutationsOk {r : Rom} (h : permutationsOk r = true) {k : Nat} (h1 : 1 ≤ k) (h32 : k ≤ 32) :
    undoes r.pinv r.p k = true ∧ undoes r.p r.pinv k = true := by
  simp only [permutationsOk, Bool.and_eq_true, List.all_eq_true] at h
  exact h.2 k (mem_upTo.mpr ⟨h1, h32⟩)

/-- Check (b) has E undo E⁻¹, entry by entry (R86). -/
theorem undoes_of_expansionOk {r : Rom} (h : expansionOk r = true) {j : Nat} (h1 : 1 ≤ j) (h32 : j ≤ 32) :
    undoes r.e r.einv j = true := by
  simp only [expansionOk, Bool.and_eq_true, List.all_eq_true] at h
  exact (h.2 j (mem_upTo.mpr ⟨h1, h32⟩)).2

/-- Settles O36: the checks are what selection by one table after the other needs. -/
theorem tableChecksMeanInverses : Obligations.TableChecksMeanInverses := by
  unfold Obligations.TableChecksMeanInverses
  intro r he heinv hp hpinv
  refine ⟨fun hperm v => ⟨?_, ?_⟩, fun hexp x => ?_⟩
  · exact sel_sel_of_undoes hp hpinv (fun _ h1 h32 => (undoes_of_permutationsOk hperm h1 h32).2) v
  · exact sel_sel_of_undoes hpinv hp (fun _ h1 h32 => (undoes_of_permutationsOk hperm h1 h32).1) v
  · exact sel_sel_of_undoes he heinv (fun _ => undoes_of_expansionOk hexp) x

/-! ### The gate of CFG_FAULT (R88) -/

/-- NOP and SELFTEST are accepted whatever the operands and CFG_FAULT are (R51, R88). -/
theorem accepts_of_ungated {s : State} {c : Word} {i : Instr} (hidle : s.status.busy = false) (hdecode : decode c = .ok i)
    (hi : i = .nop ∨ i = .selftest) : s.Accepts c i :=
  ⟨hidle, hdecode, .inr hi, by obtain rfl | rfl := hi <;> rfl⟩

/-! ### What changes CFG_FAULT (R88, R100) -/

/-- From s to t a self-test ends: SELFTEST's, or the one after a reset. -/
def State.EndsSelfTest (s t : State) : Prop :=
  (s.phase = .run .selftest ∧ t.phase = .idle) ∨ (s.phase = .selftestReset ∧ t.phase = .idle)

theorem writeWordAt_cfgFault (s : State) (k : Nat) (v : Word) :
    (s.writeWordAt k v).status.cfgFault = s.status.cfgFault := by
  obtain hw | hw | hw | hw | hw | hw | hw := writeWordAt_cases s k v <;> rw [hw]
  case inr.inl =>
    obtain ⟨e, -, hreject⟩ | ⟨i, -, hissue⟩ := cmdWrite_cases s v
    · rw [hreject, State.reject_status, Status.record_cfgFault]
    · rw [hissue, State.issue_status, Status.take_cfgFault]
  all_goals rfl

theorem searchAdvance_status (s : State) : s.searchAdvance.status = s.status := by
  unfold State.searchAdvance; split <;> rfl

/-- A completion step changes CFG_FAULT only where it ends a self-test. -/
theorem engineComplete_cfgFault {s t : State} (h : s.engineComplete = .next t) :
    t.status.cfgFault = s.status.cfgFault ∨ s.EndsSelfTest t := by
  obtain ⟨-, rfl⟩ | ⟨i, hphase, hexec⟩ | ⟨hphase, rfl⟩ := engineComplete_cases h
  · exact .inl rfl
  · obtain ⟨-, rfl⟩ | ⟨rfl, rfl⟩ | ⟨-, rfl⟩ | ⟨-, -, -, r0, r1, rfl⟩ := exec_cases hexec
    · exact .inl rfl
    · exact .inr (.inl ⟨hphase, rfl⟩)
    · obtain ⟨-, -, -, -, -, -, hfault⟩ := Status.searched_fields
        (s.search.finish s.lat.arg0 s.lat.key).violated (s.search.finish s.lat.arg0 s.lat.key).overflows s.status
      exact .inl hfault
    · exact .inl rfl
  · exact .inr (.inr ⟨hphase, rfl⟩)

/-- An event changes CFG_FAULT only where it ends a self-test or is a reset. -/
theorem handle_cfgFault {e : Event} {s t : State} (h : State.handle e s = .next t) :
    t.status.cfgFault = s.status.cfgFault ∨ s.EndsSelfTest t ∨ e = .reset := by
  cases e with
  | write a n v =>
    obtain ⟨k, rfl⟩ := hostWrite_next h
    exact .inl (writeWordAt_cfgFault s k v)
  | read a n =>
    obtain ⟨k, rfl⟩ := hostRead_next h
    rw [readWord_frame]
    exact .inl rfl
  | complete => exact (engineComplete_cfgFault h).imp_right .inl
  | clearAtCompletion v => exact (engineComplete_cfgFault (s := s.statusWrite v) h).imp_right .inl
  | searchStep =>
    cases h
    exact .inl (congrArg Status.cfgFault (searchAdvance_status s))
  | reset => exact .inr (.inr rfl)

/-- A step changes CFG_FAULT, in either direction, only where it ends a self-test or is a reset. -/
theorem step_cfgFault {s t : State} (h : step s = .next t) :
    t.status.cfgFault = s.status.cfgFault ∨ s.EndsSelfTest t ∨ ∃ rest, s.agenda = .reset :: rest := by
  obtain ⟨-, hcomplete⟩ | ⟨e, rest, hagenda, hevent⟩ := step_cases h
  · exact (engineComplete_cfgFault hcomplete).imp_right .inl
  · obtain hsame | hends | rfl := handle_cfgFault (s := { s with agenda := rest }) hevent
    · exact .inl hsame
    · exact .inr (.inl hends)
    · exact .inr (.inr ⟨rest, hagenda⟩)

/-- Settles O9: the CMD write gates every command but two, and a step that changes CFG_FAULT ends a self-test or is a reset. -/
theorem configFaultGatesCommands : Obligations.ConfigFaultGatesCommands := by
  unfold Obligations.ConfigFaultGatesCommands
  constructor
  · intro s c i rest hagenda hidle hfault hdecode
    refine ⟨fun hnop hselftest => ?_, fun hi => ?_⟩
    · have hgate : allowedInFault i = false := by
        rw [← Bool.not_eq_true, allowedInFault_iff]
        exact not_or.mpr ⟨hnop, hselftest⟩
      exact step_cmdWrite hagenda (cmdWrite_of_gated hidle hdecode hfault hgate)
    · exact ⟨_, step_cmdWrite_of_accepts hagenda (accepts_of_ungated hidle hdecode hi), rfl⟩
  · intro s t hstep hset hclear
    obtain hsame | hends | hreset := step_cfgFault hstep
    · simp [hsame, hset] at hclear
    · exact hends.imp_right .inl
    · exact .inr (.inr hreset)

end Sys2Proof.Machine
end

section
/-! PROOFS. The errors of a rejected CMD write and of INVERT's completion (60_exceptions.md R91, R93; 43_inverter.md R78, R79). -/

namespace Sys2Proof.Machine

/-! ### A rejected CMD write (R91) -/

/-- A CMD write that no command's acceptance admits is a rejection with one of the four issue-time codes (R54, R91). -/
theorem exists_reject_of_not_accepts {s : State} {c : Word} (h : ∀ i, ¬s.Accepts c i) :
    ∃ e ∈ [ErrCode.illegalCmd, .busyReject, .badOperand, .cfgReject], s.cmdWrite c = s.reject e := by
  obtain ⟨e, he, hreject⟩ | ⟨i, hacc, -⟩ := cmdWrite_cases s c
  · refine ⟨e, ?_, hreject⟩
    simp only [List.mem_cons] at he ⊢
    tauto
  · exact absurd hacc (h i)

/-- Settles O8: the CMD write is a rejection, which writes ERR and ERRCODE alone. -/
theorem rejectedCommandChangesOnlyTheError : Obligations.RejectedCommandChangesOnlyTheError := by
  unfold Obligations.RejectedCommandChangesOnlyTheError
  intro s c rest hagenda hnot
  obtain ⟨e, he, hreject⟩ := exists_reject_of_not_accepts (s := { s with agenda := rest }) hnot
  exact ⟨e, he, step_cmdWrite hagenda hreject⟩

/-! ### What INVERT records for any finished search (R93) -/

theorem Search.overflows_iff (σ : Search) : σ.overflows = true ↔ 16 < σ.found.length := decide_eq_true_iff

theorem Search.overflows_eq_false_iff (σ : Search) : σ.overflows = false ↔ σ.found.length ≤ 16 :=
  decide_eq_false_iff_not.trans not_lt

/-- A search without a violation or an overflow records nothing (R78, R79). -/
theorem Status.searched_of_no_defect (t : Status) : t.searched false false = t := by
  simp [Status.searched]

/-- Settles O32: INVERT's completion records the defects of its finished search and releases BUSY. -/
theorem invertRecordsSearchDefects : Obligations.InvertRecordsSearchDefects := by
  unfold Obligations.InvertRecordsSearchDefects
  intro s σ
  obtain ⟨hsound, hovf, -, -, -, hcfgOk, hcfgFault⟩ := Status.searched_fields σ.violated σ.overflows s.status
  obtain ⟨hoverflow, hviolation, hcode⟩ := Status.searched_records σ.violated σ.overflows s.status
  refine ⟨(s.writeSearch σ).completed, rfl, ?_, ?_, fun hlen => ?_, fun hlen hv => ?_, fun hlen hv => ?_, rfl, hcfgOk,
    hcfgFault⟩
  · rw [← Bool.or_eq_true, ← hsound]
    rfl
  · rw [← σ.overflows_iff, ← Bool.or_eq_true, ← hovf]
    rfl
  · exact (hoverflow (σ.overflows_iff.mpr hlen)).2
  · exact ⟨(hviolation hv).2, hcode (σ.overflows_eq_false_iff.mpr hlen) hv⟩
  · rw [State.completed_status, State.writeSearch_status, hv, σ.overflows_eq_false_iff.mpr hlen, Status.searched_of_no_defect]
    exact ⟨rfl, rfl⟩

end Sys2Proof.Machine
end

section
/-! PROOFS. Reset and hazards (70_reset_and_hazards.md R100 to R102, R105, R108): a reset and the self-test after it, a result read of a
busy engine, and the completion that a busy engine comes to. -/

namespace Sys2Proof.Machine

/-! ### The completion of a busy engine (R108) -/

/-- TBLRD of a table there is, its operand in range, finds its entry (R48, R51). -/
theorem tableEntry_ne_none_of_inRange {t : BitVec 3} {x : Word} (ht : t.toNat ≤ 3)
    (hrange : operandOutOfRange (.tblrd t) x = false) : tableEntry t x.toNat ≠ none := by
  rw [ne_eq, tableEntry_eq_none_iff]
  rintro (hnoTable | hpast)
  · omega
  · by_cases h0 : t = 0#3 <;> simp [operandOutOfRange, h0] at hrange hpast <;> omega

/-- A running command's completion step never stops: TBLRD alone could, and its operand was in range (R51, R54). -/
theorem exec_next_of_running {s : State} {i : Instr} (h : s.Running i) : ∃ t, exec i s = .next t := by
  obtain hnext | ⟨n, rfl, hnone, -⟩ := exec_next_or_noTableEntry i s
  · exact hnext
  · exact absurd hnone (tableEntry_ne_none_of_inRange (of_decide_eq_true h.legal) h.inRange)

/-- The reset self-test's completion is a self-test that passes, as the ROM does (R86, R101). -/
theorem engineComplete_of_selftestReset {s : State} (h : s.phase = .selftestReset) :
    s.engineComplete = .next (s.selfTestDone true) := by
  simp only [State.engineComplete, h, tablesOk_rom]

/-- Settles O54: the engine runs an accepted command, whose completion step does not stop, or the reset self-test. -/
theorem busyEngineCompletes : Obligations.BusyEngineCompletes := by
  unfold Obligations.BusyEngineCompletes
  intro s hinv hbusy hagenda
  rw [step_nil hagenda]
  cases hphase : s.phase with
  | idle => exact absurd hphase hbusy
  | run i =>
    obtain ⟨t, hexec⟩ := exec_next_of_running (hinv.running i hphase)
    obtain ⟨hidle, hreleased, -⟩ := exec_frame hexec
    exact ⟨t, (engineComplete_of_run hphase).trans hexec, hidle, hreleased⟩
  | selftestReset => exact ⟨_, engineComplete_of_selftestReset hphase, rfl, rfl⟩

/-! ### A result read of a busy engine (R105) -/

/-- RES0, RES1, CNT and CAND[0..15] by their words in the window (R17 to R20). -/
theorem regAt_isResult {k : Nat} (h : (6 ≤ k ∧ k ≤ 8) ∨ (16 ≤ k ∧ k < 32)) :
    ∃ r, regAt k = some r ∧ r.isResult = true := by
  obtain ⟨h6, h8⟩ | ⟨h16, h32⟩ := h
  · interval_cases k
    exacts [⟨.res0, rfl, rfl⟩, ⟨.res1, rfl, rfl⟩, ⟨.cnt, rfl, rfl⟩]
  · obtain ⟨j, rfl⟩ : ∃ j : Fin 16, k = 16 + j.val := ⟨⟨k - 16, by omega⟩, (Nat.add_sub_cancel' h16).symm⟩
    exact ⟨.cand j, regAt_cand j, rfl⟩

/-- A read of a result register while BUSY = 1 draws a value (R105). -/
theorem readWord_of_busy_result {k : Nat} {r : Reg} {s : State} (h : regAt k = some r) (hresult : r.isResult = true)
    (hbusy : s.status.busy = true) :
    s.readWord k = { s with rdata := Config.freeWord s.draws, draws := s.draws + 1 } := by
  simp [State.readWord, h, hresult, hbusy]

/-- Settles O42: the word read is a result register's, and the engine is busy. -/
theorem busyResultReadsAreFree : Obligations.BusyResultReadsAreFree := by
  unfold Obligations.BusyResultReadsAreFree
  intro s k rest hbusy hword hagenda
  obtain ⟨r, hreg, hresult⟩ := regAt_isResult hword
  rw [step_read (by omega) hagenda, readWord_of_busy_result (s := { s with agenda := rest }) hreg hresult hbusy]

/-! ### Reset and its self-test (R100 to R102) -/

theorem statusWord_reset : Status.reset.word = 0x00000001 := by decide

/-- Settles O45: whatever the engine runs, the event is the reset of CORE. -/
theorem resetSetsEveryRegister : Obligations.ResetSetsEveryRegister := by
  unfold Obligations.ResetSetsEveryRegister
  intro s rest hagenda
  exact ⟨State.resetCore { s with agenda := rest }, step_cons hagenda, statusWord_reset, rfl, rfl, rfl, rfl, rfl, rfl,
    rfl, fun j => by simp, rfl, rfl, rfl⟩

/-- A self-test that fails sets CFG_FAULT, records CONFIG_DEFECT, and ends (R87, R101). -/
theorem selfTestDone_failed (s : State) : s.selfTestDone false =
    { s with phase := .idle, status := { s.status with cfgOk := false, cfgFault := true, err := true,
                                                       errCode := .configDefect, busy := false } } := rfl

/-- Settles O46: at a completion event and, from reset, with no event to come, the self-test passes; a failing verdict is recorded. -/
theorem resetSelfTestCompletes : Obligations.ResetSelfTestCompletes := by
  unfold Obligations.ResetSelfTestCompletes
  refine ⟨fun s rest hphase hagenda => ?_, ⟨State.reset.selfTestDone true, ?_, by decide, rfl⟩, selfTestDone_failed⟩
  · exact (step_cons hagenda).trans (engineComplete_of_selftestReset (s := { s with agenda := rest }) hphase)
  · exact (step_nil rfl).trans (engineComplete_of_selftestReset rfl)

/-- Settles O52: the invariant holds right after reset, and STATUS has neither flag. -/
theorem resetHasNoDefect : Obligations.ResetHasNoDefect := ⟨resetMeetsTheInvariant, rfl, rfl⟩

end Sys2Proof.Machine
end
